-- ==== Sys2Proof/Word.lean ====
section
/-! DEFINITION. The word types of the Vercab 2240: bytes of a link frame, 32-bit words of the register window
(R182), and 64-byte lines of node memory (00_scope, Conventions). -/

namespace Sys2Proof

/-- A byte of a link frame (R186). -/
abbrev Byte := BitVec 8

/-- A word of the register window, of a command record or of a completion record (R182, R188, R189). -/
abbrev Word := BitVec 32

/-- A line of node memory: 64 bytes, byte `i` of the line standing in bits `8*i+7 .. 8*i`. -/
abbrev Line := BitVec 512

/-- A station number as frames and commands carry it: six bits (R186, R188). -/
abbrev StationNum := BitVec 6

/-- A grant number, the index of one of the 512 entries of the grant table (R1). -/
abbrev GrantNum := Fin 512

/-- A slot of the station table (R45). -/
abbrev SlotNum := Fin 16

/-- A transfer context (R92). -/
abbrev CtxNum := Fin 8

end Sys2Proof
end

