-- ==== Sys2Proof/Config.lean ====
section
/-! DEFINITION. The fixed quantities of the part (Table 0-5 and the rules cited at each). The data book leaves no
value of the part to the implementation, so there is no free value here. -/

namespace Sys2Proof.Config

/-- The content of the ID word (Table 11-1). -/
def idWord : Word := 0x22400001#32

/-- Capacity of the command FIFO (R139). -/
def fifoCapacity : Nat := 16

/-- Capacity of the completion queue (R164). -/
def cqCapacity : Nat := 64

/-- The most immediate replies that may stand in the reply queue (R84). -/
def immediateLimit : Nat := 4

/-- The first number that is not a line address: 2^28 lines of node memory (00_scope, Node memory and lines).
It is also the largest value of MEM_TOP. -/
def lineLimit : Nat := 268435456

/-- The longest window, in lines (00_scope, Node memory and lines). -/
def maxLength : Nat := 65536

/-- The ceiling of a remaining lifetime, in ticks (R30). -/
def maxLifetime : Nat := 65535

/-- The ceiling of the renew credits (R31). -/
def maxCredits : Nat := 15

/-- The largest quota (R47). -/
def maxQuota : Nat := 512

/-- The most lines one request moves, and the lines of a context's buffer (R74, R92). -/
def maxCount : Nat := 16

/-- Saturation of the swept count of a waiting restarted event (R55). -/
def maxSwept : Nat := 65535

/-- Saturation of the merged count of a waiting restarted event (R55). -/
def maxMerged : Nat := 255

/-- The training period of the link, in µs (R126). -/
def trainingPeriod : Nat := 200

/-- The generator polynomial 04C11DB7H of the frame CRC (R132), written with its coefficients in the order in
which the bits of a frame travel (each byte least significant bit first): PRESUMED, log entry 6. -/
def crcPolynomial : Word := 0xEDB88320#32

end Sys2Proof.Config
end

