-- ==== Sys2Proof/Syntax.lean ====
section
/-! DEFINITION. The commands and events the part takes: one constructor of `Instr` per row of
spec/opcode_table.json, with the operands the spec gives that row. -/

namespace Sys2Proof

/-- The fields of an ISSUE command record (R146, Table 11-8). -/
structure IssueFields where
  station : StationNum
  shared : Bool
  read : Bool
  write : Bool
  notify : Bool
  lifetimePresent : Bool
  length : BitVec 17
  base : BitVec 28
  credits : BitVec 4
  cookie : BitVec 16
  lifetime : BitVec 16
  renewAmount : BitVec 16
  deriving DecidableEq, Repr

/-- The fields of an AMEND command record (R147, Table 11-8). -/
structure AmendFields where
  grant : BitVec 16
  gen : BitVec 8
  lifetimeAction : BitVec 2
  notifyAction : BitVec 2
  renewSet : Bool
  rightsSet : Bool
  read : Bool
  write : Bool
  lengthSet : Bool
  length : BitVec 17
  credits : BitVec 5
  lifetime : BitVec 16
  renewAmount : BitVec 16
  deriving DecidableEq, Repr

/-- The fields of a SET_LIMITS command record (R157, Table 11-8). -/
structure LimitsFields where
  keepMemTop : Bool
  keepPolicy : Bool
  keepQuota : Bool
  memTop : Word
  policy : BitVec 2
  quota : BitVec 16
  deriving DecidableEq, Repr

/-- The fields of a SET_TIMING command record (R158, Table 11-8). -/
structure TimingFields where
  keepPeriod : Bool
  keepInterval : Bool
  keepTries : Bool
  period : BitVec 3
  interval : BitVec 4
  tries : BitVec 3
  deriving DecidableEq, Repr

/-- A host command as its record carries it (R140, R188). `bad` is a record whose code is none of the fourteen. -/
inductive Command where
  | issue (f : IssueFields)
  | amend (f : AmendFields)
  | revoke (grant : BitVec 16) (gen : BitVec 8)
  | sweep (station : StationNum) (shared : Bool)
  | queryGrant (grant : BitVec 16) (part : BitVec 2)
  | queryLine (line : Word) (skip : BitVec 16)
  | admitStation (station : StationNum) (quota : BitVec 16)
  | bar (station : StationNum)
  | forget (station : StationNum)
  | queryStation (station : StationNum) (part : BitVec 2)
  | setLimits (f : LimitsFields)
  | setTiming (f : TimingFields)
  | hold (freeze : Bool)
  | resume
  | bad (code : BitVec 4)
  deriving DecidableEq, Repr

/-- The result with which a line operation of the node bus ends (R94). -/
inductive LineResult where
  /-- Done; for a line read, with the 64 bytes that have arrived. A line write carries no data. -/
  | done (data : Line)
  /-- A bus error, or for a line read a parity error on the arriving data. -/
  | fault
  deriving DecidableEq, Repr

/-- The commands and events of the part, one constructor per row of spec/opcode_table.json, in the table's order.
A host command's row carries its tag and the fields of its record (R140); a frame's row carries the source,
the sequence number and the fields of its kind (Table 4-1, Table 11-6); a register write's row carries the word
written. -/
inductive Instr where
  /-- R185: the levels of RESETn and of the supply detector become the ones given; where neither holds the part in
  reset any more, the reset ends and the straps are sampled. -/
  | powerOnReset (resetnLow : Bool) (supplyOut : Bool) (straps : BitVec 6)
  /-- R184: a CONTROL write of `v` with ENGINE_RESET 1. -/
  | engineReset (v : Word)
  /-- R125: a CONTROL write of `v` with LINK_ENABLE 1. -/
  | linkEnable (v : Word)
  /-- R125: a CONTROL write of `v` with LINK_ENABLE 0. -/
  | linkDisable (v : Word)
  /-- R172: a CONTROL write of `v` with ENGINE_RESET 0. -/
  | interruptEnableWrite (v : Word)
  /-- R171: a write of `v` to ALERTS. -/
  | alertsClear (v : Word)
  /-- R138: a write of `v` to STAGE`i`. -/
  | stageWrite (i : Fin 4) (v : Word)
  /-- R139: a write to SUBMIT; the value is ignored. -/
  | submit (v : Word)
  /-- R166: a write to CQ_ACK; the value is ignored. -/
  | cqAck (v : Word)
  /-- R182: a write of `v` at byte offset `offset`, with the byte lanes `lanes` of the word enabled. -/
  | ignoredWrite (offset : BitVec 8) (lanes : BitVec 4) (v : Word)
  /-- R169: a free slot of the completion queue is given to the head of the event backlog. -/
  | backlogPlace
  | issue (tag : BitVec 16) (f : IssueFields)
  | amend (tag : BitVec 16) (f : AmendFields)
  | revoke (tag : BitVec 16) (grant : BitVec 16) (gen : BitVec 8)
  | sweep (tag : BitVec 16) (station : StationNum) (shared : Bool)
  | queryGrant (tag : BitVec 16) (grant : BitVec 16) (part : BitVec 2)
  | queryLine (tag : BitVec 16) (line : Word) (skip : BitVec 16)
  | admitStation (tag : BitVec 16) (station : StationNum) (quota : BitVec 16)
  | bar (tag : BitVec 16) (station : StationNum)
  | forget (tag : BitVec 16) (station : StationNum)
  | queryStation (tag : BitVec 16) (station : StationNum) (part : BitVec 2)
  | setLimits (tag : BitVec 16) (f : LimitsFields)
  | setTiming (tag : BitVec 16) (f : TimingFields)
  | hold (tag : BitVec 16) (freeze : Bool)
  | resume (tag : BitVec 16)
  | badCommand (tag : BitVec 16) (code : BitVec 4)
  /-- R126: the receiver loses lock, or sees the partner's sync pattern. -/
  | syncLost
  /-- R126: the training time reaches the training period. -/
  | trainingComplete
  /-- R132: the bytes of a received frame, put to the receive filter. -/
  | filteredFrame (bytes : List Byte)
  | unknownKindFrame (src : StationNum) (seq : Byte) (kind : Byte)
  | hello (src : StationNum) (seq : Byte) (epoch : BitVec 16) (start : Byte)
  | read (src : StationNum) (seq : Byte) (grant : BitVec 16) (gen : Byte) (offset : BitVec 16) (count : Byte)
  | write (src : StationNum) (seq : Byte) (grant : BitVec 16) (gen : Byte) (offset : BitVec 16) (count : Byte) (payload : List Line)
  | renew (src : StationNum) (seq : Byte) (grant : BitVec 16) (gen : Byte)
  | returnGrant (src : StationNum) (seq : Byte) (grant : BitVec 16) (gen : Byte)
  | probe (src : StationNum) (seq : Byte) (grant : BitVec 16) (gen : Byte)
  | noticeAck (src : StationNum) (seq : Byte) (grant : BitVec 16) (gen : Byte)
  /-- R26: the tick phase reaches the tick period. -/
  | tick
  /-- R29: the LIVE grants whose remaining lifetime is 0 expire. -/
  | grantExpiry
  /-- R115: the interval of the notice head of `slot` expires. -/
  | noticeIntervalExpiry (slot : SlotNum)
  /-- R111: the NOTICE frame of the new head of `slot` is offered. -/
  | noticeOffer (slot : SlotNum)
  /-- R134: the free transmitter takes a waiting frame. -/
  | transmitStart
  /-- R84, R135: the transmission of an immediate reply completes. -/
  | immediateReplySent
  /-- R103: the transmission of a context reply completes. -/
  | contextReplySent
  /-- R113: the transmission of a slot head's NOTICE frame completes. -/
  | noticeSent
  /-- R135: the transmission of a detached NOTICE frame completes. -/
  | detachedNoticeSent
  /-- R94, R95: the arbiter gives the free port to the next context with a line left. -/
  | lineOperationStart
  /-- R96: the outstanding line operation ends done, `data` being what a line read returns. -/
  | lineDone (data : Line)
  /-- R97: the outstanding line operation ends in a bus fault. -/
  | lineBusFault
  /-- R107: the detached line operation ends, with the result given. -/
  | detachedLineEnd (result : LineResult)
  /-- R35: the CLOSING grant `g`, if ready, is handed to the Completion Queue. -/
  | grantReady (g : GrantNum)
  /-- R176: a drain whose contexts are all IDLE ends in HELD. -/
  | drainEnd
  deriving DecidableEq, Repr

end Sys2Proof
end

