-- ==== Sys2Proof/WellFormed.lean ====
section
/-! DEFINITION. Which commands are well formed: operands that the row of the table can carry at all. Values that the
part itself tests (a grant number above 511, a count of 0, a field out of range) are well formed: the part answers
them. -/

namespace Sys2Proof

/-- A station number is valid when it is 1 to 62 (00_scope, Stations). -/
def validStation (n : StationNum) : Bool := n != 0 && n != 63

/-- The seven request kind codes, 01H to 07H (R186). -/
def isRequestKind (code : Byte) : Bool := 1 ≤ code.toNat && code.toNat ≤ 7

/-- The byte offsets of the words that a full-width write acts on: CONTROL, ALERTS, STAGE0..3, SUBMIT and CQ_ACK
(Table 11-1, R182). -/
def isWritableOffset (offset : BitVec 8) : Bool :=
  [0x04, 0x0C, 0x10, 0x14, 0x18, 0x1C, 0x20, 0x40].contains offset.toNat

/-- A command is well formed when a sender can send it as its row describes it. -/
def WellFormed : Instr → Bool
  | .engineReset v => v.getLsbD 1
  | .linkEnable v => v.getLsbD 0
  | .linkDisable v => !v.getLsbD 0
  | .interruptEnableWrite v => !v.getLsbD 1
  | .ignoredWrite offset lanes _ => lanes != 0xF || !isWritableOffset offset
  | .badCommand _ code => code == 0 || code == 15
  | .unknownKindFrame src _ kind => validStation src && !isRequestKind kind
  | .hello src _ _ _ => validStation src
  | .read src _ _ _ _ _ => validStation src
  | .write src _ _ _ _ _ payload => validStation src && decide (payload.length ≤ Config.maxCount)
  | .renew src _ _ _ => validStation src
  | .returnGrant src _ _ _ => validStation src
  | .probe src _ _ _ => validStation src
  | .noticeAck src _ _ _ => validStation src
  | .powerOnReset _ _ _ | .alertsClear _ | .stageWrite _ _ | .submit _ | .cqAck _ | .backlogPlace => true
  | .issue _ _ | .amend _ _ | .revoke _ _ _ | .sweep _ _ _ | .queryGrant _ _ _ | .queryLine _ _ _ => true
  | .admitStation _ _ _ | .bar _ _ | .forget _ _ | .queryStation _ _ _ | .setLimits _ _ | .setTiming _ _ => true
  | .hold _ _ | .resume _ | .syncLost | .trainingComplete | .filteredFrame _ => true
  | .tick | .grantExpiry | .noticeIntervalExpiry _ | .noticeOffer _ | .transmitStart | .immediateReplySent => true
  | .contextReplySent | .noticeSent | .detachedNoticeSent | .lineOperationStart | .lineDone _ | .lineBusFault => true
  | .detachedLineEnd _ | .grantReady _ | .drainEnd => true

end Sys2Proof
end

