-- ==== Sys2Proof/Decode.lean ====
section
/-! DEFINITION. The commands that a word spells by the bits of spec/opcode_table.json. The table gives no row any
bits (no row has "fixed" or "fields"), so no word spells a command. The bit layouts that the spec does give, those
of command records, completion records and frames, are in Machine/Operands.lean, Machine/Results.lean and
Machine/Frames.lean. -/

namespace Sys2Proof

/-- The command that a word of `nbits` bits spells by the table's bits: none, since no row gives bits. -/
def decodeTableWord (_nbits _w : Nat) : Option Instr := none

end Sys2Proof
end

