-- ==== Sys2Proof/Machine/State.lean ====
section
/-! DEFINITION. The state of the Vercab 2240 as plain data, one field for each piece of state that the data book
names, and its values after power-on reset. -/

namespace Sys2Proof.Machine

/-! ### The grant table (chapter 1) -/

/-- Rights of a grant (00_scope, Grants). -/
inductive Rights where
  | read
  | write
  | readWrite
  deriving DecidableEq, Repr

/-- The holder of a grant: a station, or SHARED (00_scope, Grants). -/
inductive Holder where
  | station (n : StationNum)
  | shared
  deriving DecidableEq, Repr

/-- Close causes (Table 2-3). -/
inductive Cause where
  | returned
  | revoked
  | expired
  | swept
  | restarted
  deriving DecidableEq, Repr

/-- Notice states; tries sent and ticks since last send are present in AWAIT_ACK only (R5). -/
inductive Notice where
  | notDue
  | queued
  | awaitAck (tries ticks : Nat)
  | acked
  | unacked
  | abandoned
  deriving DecidableEq, Repr

/-- The fields present in LIVE and in CLOSING (Table 1-1). `remaining` and `renewAmount` may be absent there too (R3). -/
structure Terms where
  holder : Holder
  base : Nat
  length : Nat
  rights : Rights
  remaining : Option Nat
  credits : Nat
  renewAmount : Option Nat
  notify : Bool
  cookie : BitVec 16
  deriving DecidableEq, Repr

/-- The fields present in CLOSING only (R5). -/
structure Closing where
  cause : Cause
  notice : Notice
  retireWait : Bool
  deriving DecidableEq, Repr

/-- The state of a grant entry with the fields present in it (R6). -/
inductive Body where
  | free
  | live (t : Terms)
  | closing (t : Terms) (c : Closing)
  deriving DecidableEq, Repr

/-- A grant record (R1). -/
structure Grant where
  gen : BitVec 8
  inFlight : Nat
  body : Body
  deriving DecidableEq, Repr

/-! ### The station table (chapter 3) and the notice queues (chapter 6) -/

/-- The kinds of request that the sequence rule governs (R56) and the reply cache holds (R61). -/
inductive ReqKind where
  | read
  | write
  | renew
  | returnGrant
  | probe
  deriving DecidableEq, Repr

/-- Reply status codes (Table 4-4). -/
inductive ReplyStatus where
  | ok
  | busy
  | held
  | badKind
  | unknownStation
  | stationFull
  | barred
  | notSynced
  | outOfOrder
  | badRef
  | stale
  | closed
  | notHolder
  | noRight
  | badLength
  | outOfWindow
  | noCredit
  | notTimed
  | memFault
  deriving DecidableEq, Repr

/-- A station's session: its epoch and its last accepted sequence number, present together (Table 3-1). -/
structure Session where
  epoch : BitVec 16
  last : Byte
  deriving DecidableEq, Repr

/-- The reply cache (R61). -/
structure Cache where
  kind : ReqKind
  seq : Byte
  status : ReplyStatus
  value : Word
  deriving DecidableEq, Repr

/-- A restarted event waiting in the event backlog (R55). -/
structure RestartWait where
  epoch : BitVec 16
  swept : Nat
  merged : Nat
  deriving DecidableEq, Repr

/-- A station record in state ADMITTED or BARRED (Table 3-1). -/
structure Station where
  barred : Bool
  number : StationNum
  quota : Nat
  held : Nat
  session : Option Session
  pending : Option CtxNum
  cache : Option Cache
  admittedWaiting : Bool
  restartWaiting : Option RestartWait
  deriving DecidableEq, Repr

/-- A NOTICE frame as it is built when offered (R112). -/
structure NoticeFrame where
  dest : StationNum
  src : StationNum
  grant : GrantNum
  gen : BitVec 8
  cause : Cause
  tryNo : Nat
  deriving DecidableEq, Repr

/-- The head frame state of a station slot (R109), with the frame while it waits for the transmitter. -/
inductive HeadFrame where
  | none
  | offered (f : NoticeFrame)
  | sending
  deriving DecidableEq, Repr

/-- A slot of the station table: its record, absent when VACANT (R45), and the slot's notice queue, head first (R109,
log 11), with the state of its head's frame. -/
structure Slot where
  record : Option Station
  queue : List GrantNum
  frame : HeadFrame
  deriving DecidableEq, Repr

/-! ### Transfer contexts and the node-bus port (chapter 5) -/

/-- Context states (R92). -/
inductive CtxState where
  | idle
  | readMem
  | writeMem
  | replyWait
  deriving DecidableEq, Repr

/-- A transfer context (Table 5-1). `write` is its kind, `fault` its status MEM_FAULT. -/
structure Ctx where
  state : CtxState
  slot : SlotNum
  seq : Byte
  write : Bool
  grant : GrantNum
  gen : BitVec 8
  first : Nat
  count : Nat
  issued : Nat
  done : Nat
  fault : Bool
  replayed : Bool
  orphaned : Bool
  buffer : Vector Line 16
  deriving DecidableEq, Repr

/-- One line operation of the node-bus master port (R94). -/
inductive LineOp where
  | read (line : Nat)
  | write (line : Nat) (data : Line)
  deriving DecidableEq, Repr

/-- The node-bus master port: free, or busy with one line operation and the context that started it, none once an
engine reset has detached it (R94, R107). -/
inductive Port where
  | free
  | busy (owner : Option CtxNum) (op : LineOp)
  deriving DecidableEq, Repr

/-! ### The link port (chapter 7) -/

/-- Link states (R124). -/
inductive LinkState where
  | down
  | training
  | up
  deriving DecidableEq, Repr

/-- A REPLY frame (R67). `kind` is the kind answered, `data` the payload lines. -/
structure Reply where
  dest : StationNum
  src : StationNum
  seq : Byte
  grant : BitVec 16
  gen : Byte
  replayed : Bool
  kind : Byte
  status : ReplyStatus
  value : Word
  data : List Line
  deriving DecidableEq, Repr

/-- Which block built a reply, and so which one its completion is handed to (R135). -/
inductive Origin where
  | immediate
  | context (c : CtxNum)
  deriving DecidableEq, Repr

/-- A reply as it stands in the reply queue (R133). -/
structure QueuedReply where
  origin : Origin
  frame : Reply
  deriving DecidableEq, Repr

/-- The transmitter: free, sending the head of the reply queue, or sending a notice frame, of a slot's head or
detached from its queue (R134, R117). -/
inductive Tx where
  | free
  | reply
  | notice (slot : Option SlotNum) (f : NoticeFrame)
  deriving DecidableEq, Repr

/-! ### The completion queue (chapter 9) -/

/-- Command status codes (Table 8-2). -/
inductive CmdStatus where
  | ok
  | badCommand
  | badField
  | badWindow
  | noStation
  | quota
  | conflict
  | tableFull
  | badRef
  | stale
  | closed
  | inFlight
  | stationFull
  | holdsGrants
  | inUse
  | notHeld
  | alreadyHeld
  deriving DecidableEq, Repr

/-- A completion record (Table 9-1). -/
inductive Completion where
  | cmdDone (code : BitVec 4) (tag : BitVec 16) (status : CmdStatus) (w1 w2 w3 : Word)
  | retired (g : GrantNum) (gen : BitVec 8) (holder : Holder) (cause : Cause) (outcome : Notice) (cookie : BitVec 16)
  | admitted (station : StationNum) (slot : SlotNum)
  | restarted (station : StationNum) (epoch : BitVec 16) (swept merged : Nat)
  | holdReached
  deriving DecidableEq, Repr

/-- An entry of the event backlog: it names its source and carries no copy of the record (R168). -/
inductive Event where
  | grant (g : GrantNum)
  | admitted (slot : SlotNum)
  | restarted (slot : SlotNum)
  | holdReached
  deriving DecidableEq, Repr

/-- The four alert flags (R171). -/
structure Alerts where
  linkChange : Bool
  cmdOverrun : Bool
  busFault : Bool
  backlog : Bool
  deriving DecidableEq, Repr

/-- The five interrupt enables of CONTROL (R172). -/
structure Enables where
  cq : Bool
  linkChange : Bool
  cmdOverrun : Bool
  busFault : Bool
  backlog : Bool
  deriving DecidableEq, Repr

/-! ### Settings and hold -/

/-- Admission policy (R47). -/
inductive Policy where
  | closed
  | opened
  deriving DecidableEq, Repr

/-- Tick periods (Table 2-1). -/
inductive TickPeriod where
  | us100
  | ms1
  | ms10
  | ms100
  deriving DecidableEq, Repr

/-- Hold states (R174). -/
inductive HoldState where
  | running
  | draining
  | held
  deriving DecidableEq, Repr

/-- A command record: the four words STAGE0..3 (R138). -/
abbrev Record := Vector Word 4

/-- The state of the part. -/
structure State where
  /-- The level of RESETn is low (R185). -/
  resetnLow : Bool
  /-- The supply detector finds the supplies out of range (R185). -/
  supplyOut : Bool
  /-- CONTROL.LINK_ENABLE (R125). -/
  linkEnable : Bool
  enables : Enables
  alerts : Alerts
  stage : Record
  fifo : List Record
  /-- MEM_TOP (R157). -/
  memTop : Nat
  policy : Policy
  defaultQuota : Nat
  tickPeriod : TickPeriod
  noticeInterval : Nat
  noticeTries : Nat
  /-- Time in µs since the last tick or restart of the phase (R25, log 2). -/
  tickPhase : Nat
  grants : Vector Grant 512
  freeList : List GrantNum
  /-- The window index (R13). -/
  index : List GrantNum
  slots : Vector Slot 16
  /-- The immediate-reply count (R65). -/
  immCount : Nat
  ctxs : Vector Ctx 8
  port : Port
  /-- The context last served by the arbiter (R95). -/
  lastServed : CtxNum
  /-- The lines that accepted line writes of the part have set in node memory, by line address (log 12). -/
  nodeMem : List (Nat × Line)
  /-- The offer list of the Notice Unit (R109). -/
  offers : List SlotNum
  link : LinkState
  /-- SELF (R130). -/
  self : StationNum
  /-- Training time in µs (R126, log 2). -/
  trainingTime : Nat
  /-- A frame is under reception (R131, log 17). -/
  receiving : Bool
  replyQ : List QueuedReply
  tx : Tx
  /-- The completion queue, head first (R164). -/
  cq : List Completion
  /-- The event backlog, head first (R168). -/
  backlog : List Event
  hold : HoldState
  freeze : Bool
  /-- The commands and events waiting to be taken, first in, first out (log 1). -/
  pending : List Instr
  deriving DecidableEq, Repr

/-- No fault: the data book names no condition that stops the part (INVENTORY, Faults). -/
inductive Fault where
  deriving DecidableEq, Repr

/-- Refusals. -/
inductive Refusal where
  /-- Raised by an arm of `exec` whose command has no meaning yet; no arm raises it. Safe: the run stops. -/
  | notModelled (mnemonic : String)
  deriving DecidableEq, Repr

/-- What a step answers. -/
abbrev Result := Host.Outcome State Fault Refusal

/-! ### Reset values -/

/-- A grant entry after power-on reset (R1). -/
def Grant.initial : Grant := { gen := 0, inFlight := 0, body := .free }

/-- A station slot after power-on reset: VACANT, with an empty notice queue (R64, R123). -/
def Slot.initial : Slot := { record := none, queue := [], frame := .none }

/-- A context after power-on reset (R92). The fields that R92 does not name there are DESIGN CHOICE zeros, log 8. -/
def Ctx.initial : Ctx :=
  { state := .idle, slot := 0, seq := 0, write := false, grant := 0, gen := 0, first := 0, count := 0, issued := 0,
    done := 0, fault := false, replayed := false, orphaned := false, buffer := Vector.replicate 16 0 }

/-- All alerts clear (R173). -/
def Alerts.clear : Alerts := { linkChange := false, cmdOverrun := false, busFault := false, backlog := false }

/-- All enables clear (R173). -/
def Enables.clear : Enables :=
  { cq := false, linkChange := false, cmdOverrun := false, busFault := false, backlog := false }

/-- The part right after power-on reset. SELF is the straps' value, here that of an unstrapped part
(Table 11-4; DESIGN CHOICE, log 7). -/
def State.reset : State :=
  { resetnLow := false
    supplyOut := false
    linkEnable := false
    enables := Enables.clear
    alerts := Alerts.clear
    stage := Vector.replicate 4 0
    fifo := []
    memTop := 0
    policy := .closed
    defaultQuota := 32
    tickPeriod := .ms1
    noticeInterval := 4
    noticeTries := 3
    tickPhase := 0
    grants := Vector.replicate 512 Grant.initial
    freeList := List.finRange 512
    index := []
    slots := Vector.replicate 16 Slot.initial
    immCount := 0
    ctxs := Vector.replicate 8 Ctx.initial
    port := .free
    lastServed := 7
    nodeMem := []
    offers := []
    link := .down
    self := 0
    trainingTime := 0
    receiving := false
    replyQ := []
    tx := .free
    cq := []
    backlog := []
    hold := .running
    freeze := false
    pending := [] }

end Sys2Proof.Machine
end

