-- ==== Sys2Proof/Machine/Operands.lean ====
section
/-! DEFINITION. Operand forms: bit fields of words, the layout of command records (R188, Table 11-8), and the request
that a frame's fields make. -/

namespace Sys2Proof.Machine

/-! ### Bit fields -/

/-- The word with `x` in its bits from `lo` up and 0 elsewhere. -/
def place {n : Nat} (lo : Nat) (x : BitVec n) : Word := x.setWidth 32 <<< lo

/-- The word with the bit `lo` set as `b` says and 0 elsewhere. -/
def flag (lo : Nat) (b : Bool) : Word := place lo (BitVec.ofBool b)

/-- The word with the number `v`, reduced to `width` bits, in its bits from `lo` up and 0 elsewhere. -/
def number (lo width v : Nat) : Word := place lo (BitVec.ofNat width v)

/-- The field of `len` bits of `w` whose lowest bit is `lo`: `w[lo+len-1:lo]`. -/
def bits (w : Word) (lo len : Nat) : BitVec len := w.extractLsb' lo len

/-! ### Command records (R188) -/

/-- The command code of each command: the order of Table 8-1 (R188, log 15). -/
def commandCode : Command → BitVec 4
  | .issue _ => 1
  | .amend _ => 2
  | .revoke _ _ => 3
  | .sweep _ _ => 4
  | .queryGrant _ _ => 5
  | .queryLine _ _ => 6
  | .admitStation _ _ => 7
  | .bar _ => 8
  | .forget _ => 9
  | .queryStation _ _ => 10
  | .setLimits _ => 11
  | .setTiming _ => 12
  | .hold _ => 13
  | .resume => 14
  | .bad code => code

/-- STAGE0[15:4] of a command (Table 11-8). -/
def commandHead : Command → Word
  | .issue f =>
    place 4 f.station ||| flag 10 f.shared ||| flag 11 f.read ||| flag 12 f.write ||| flag 13 f.notify |||
      flag 14 f.lifetimePresent ||| place 15 (f.length.extractLsb' 16 1)
  | .amend f =>
    place 4 f.lifetimeAction ||| place 6 f.notifyAction ||| flag 8 f.renewSet ||| flag 9 f.rightsSet |||
      flag 10 f.read ||| flag 11 f.write ||| flag 12 f.lengthSet ||| place 13 (f.length.extractLsb' 16 1)
  | .sweep station shared => place 4 station ||| flag 10 shared
  | .admitStation station _ => place 4 station
  | .bar station => place 4 station
  | .forget station => place 4 station
  | .queryStation station _ => place 4 station
  | .setLimits f => flag 4 f.keepMemTop ||| flag 5 f.keepPolicy ||| flag 6 f.keepQuota
  | .setTiming f => flag 4 f.keepPeriod ||| flag 5 f.keepInterval ||| flag 6 f.keepTries
  | .hold freeze => flag 4 freeze
  | .revoke _ _ | .queryGrant _ _ | .queryLine _ _ | .resume | .bad _ => 0

/-- STAGE1 of a command (Table 11-8). -/
def commandWord1 : Command → Word
  | .issue f => place 0 f.base ||| place 28 f.credits
  | .amend f => place 0 f.grant ||| place 16 f.gen ||| place 24 f.credits
  | .revoke grant gen => place 0 grant ||| place 16 gen
  | .queryGrant grant _ => place 0 grant
  | .queryLine line _ => line
  | .admitStation _ quota => place 0 quota
  | .setLimits f => f.memTop
  | .setTiming f => place 0 f.period
  | .sweep _ _ | .bar _ | .forget _ | .queryStation _ _ | .hold _ | .resume | .bad _ => 0

/-- STAGE2 of a command (Table 11-8). -/
def commandWord2 : Command → Word
  | .issue f => place 0 (f.length.extractLsb' 0 16) ||| place 16 f.cookie
  | .amend f => place 0 f.lifetime ||| place 16 f.renewAmount
  | .queryGrant _ part => place 0 part
  | .queryLine _ skip => place 0 skip
  | .queryStation _ part => place 0 part
  | .setLimits f => place 0 f.policy
  | .setTiming f => place 0 f.interval
  | .revoke _ _ | .sweep _ _ | .admitStation _ _ | .bar _ | .forget _ | .hold _ | .resume | .bad _ => 0

/-- STAGE3 of a command (Table 11-8). -/
def commandWord3 : Command → Word
  | .issue f => place 0 f.lifetime ||| place 16 f.renewAmount
  | .amend f => place 0 (f.length.extractLsb' 0 16)
  | .setLimits f => place 0 f.quota
  | .setTiming f => place 0 f.tries
  | .revoke _ _ | .sweep _ _ | .queryGrant _ _ | .queryLine _ _ | .admitStation _ _ | .bar _ | .forget _
  | .queryStation _ _ | .hold _ | .resume | .bad _ => 0

/-- The record of a command with a tag; the bits that Table 11-8 gives the command no use for are 0 (R188). -/
def encodeCommand (tag : BitVec 16) (c : Command) : Record :=
  #v[place 0 (commandCode c) ||| commandHead c ||| place 16 tag, commandWord1 c, commandWord2 c, commandWord3 c]

/-- The tag of a record, STAGE0[31:16] (R188). -/
def Record.tag (r : Record) : BitVec 16 := bits r[0] 16 16

/-- The command code of a record, STAGE0[3:0] (R188). -/
def Record.code (r : Record) : BitVec 4 := bits r[0] 0 4

/-- The fields of an ISSUE record (Table 11-8). A 17-bit length is its high bit and its 16-bit low part (R188). -/
def decodeIssue (r : Record) : IssueFields :=
  { station := bits r[0] 4 6
    shared := r[0].getLsbD 10
    read := r[0].getLsbD 11
    write := r[0].getLsbD 12
    notify := r[0].getLsbD 13
    lifetimePresent := r[0].getLsbD 14
    length := bits r[0] 15 1 ++ bits r[2] 0 16
    base := bits r[1] 0 28
    credits := bits r[1] 28 4
    cookie := bits r[2] 16 16
    lifetime := bits r[3] 0 16
    renewAmount := bits r[3] 16 16 }

/-- The fields of an AMEND record (Table 11-8). -/
def decodeAmend (r : Record) : AmendFields :=
  { grant := bits r[1] 0 16
    gen := bits r[1] 16 8
    lifetimeAction := bits r[0] 4 2
    notifyAction := bits r[0] 6 2
    renewSet := r[0].getLsbD 8
    rightsSet := r[0].getLsbD 9
    read := r[0].getLsbD 10
    write := r[0].getLsbD 11
    lengthSet := r[0].getLsbD 12
    length := bits r[0] 13 1 ++ bits r[3] 0 16
    credits := bits r[1] 24 5
    lifetime := bits r[2] 0 16
    renewAmount := bits r[2] 16 16 }

/-- The fields of a SET_LIMITS record (Table 11-8). -/
def decodeLimits (r : Record) : LimitsFields :=
  { keepMemTop := r[0].getLsbD 4
    keepPolicy := r[0].getLsbD 5
    keepQuota := r[0].getLsbD 6
    memTop := r[1]
    policy := bits r[2] 0 2
    quota := bits r[3] 0 16 }

/-- The fields of a SET_TIMING record (Table 11-8). -/
def decodeTiming (r : Record) : TimingFields :=
  { keepPeriod := r[0].getLsbD 4
    keepInterval := r[0].getLsbD 5
    keepTries := r[0].getLsbD 6
    period := bits r[1] 0 3
    interval := bits r[2] 0 4
    tries := bits r[3] 0 3 }

/-- The command a record carries, decoded when the command is taken (R188). -/
def decodeCommand (r : Record) : Command :=
  match (Record.code r).toNat with
  | 1 => .issue (decodeIssue r)
  | 2 => .amend (decodeAmend r)
  | 3 => .revoke (bits r[1] 0 16) (bits r[1] 16 8)
  | 4 => .sweep (bits r[0] 4 6) (r[0].getLsbD 10)
  | 5 => .queryGrant (bits r[1] 0 16) (bits r[2] 0 2)
  | 6 => .queryLine r[1] (bits r[2] 0 16)
  | 7 => .admitStation (bits r[0] 4 6) (bits r[1] 0 16)
  | 8 => .bar (bits r[0] 4 6)
  | 9 => .forget (bits r[0] 4 6)
  | 10 => .queryStation (bits r[0] 4 6) (bits r[2] 0 2)
  | 11 => .setLimits (decodeLimits r)
  | 12 => .setTiming (decodeTiming r)
  | 13 => .hold (r[0].getLsbD 4)
  | 14 => .resume
  | _ => .bad (Record.code r)

/-! ### Operand values -/

/-- A station number in range: 1 to 62; 0 and 63 are invalid (00_scope, Stations). -/
def stationInRange (n : StationNum) : Bool := n != 0 && n != 63

/-- A kind code that is one of the seven request kinds, 01H to 07H (R186). -/
def requestKindCode (code : Byte) : Bool := decide (1 ≤ code.toNat) && decide (code.toNat ≤ 7)

/-- The holder that a SHARED flag and a station number give (R146, R150). -/
def holderOf (shared : Bool) (station : StationNum) : Holder := if shared then .shared else .station station

/-- Is the holder field in range: SHARED, or a station number 1..62 (R146, R150)? -/
def validHolder (shared : Bool) (station : StationNum) : Bool := shared || stationInRange station

/-- The rights that a READ and a WRITE flag give; none for the empty set (R146). -/
def Rights.ofFlags (r w : Bool) : Option Rights :=
  match r, w with
  | true, true => some .readWrite
  | true, false => some .read
  | false, true => some .write
  | false, false => none

/-- Do the rights admit READ (R2)? -/
def Rights.hasRead : Rights → Bool
  | .read => true
  | .write => false
  | .readWrite => true

/-- Do the rights admit WRITE, that is, does the grant carry WRITE (R2)? -/
def Rights.hasWrite : Rights → Bool
  | .read => false
  | .write => true
  | .readWrite => true

/-- The tick period of a period code (Table 11-8). -/
def TickPeriod.ofCode : Nat → Option TickPeriod
  | 0 => some .us100
  | 1 => some .ms1
  | 2 => some .ms10
  | 3 => some .ms100
  | _ => none

/-- The policy of a policy code (Table 11-8). -/
def Policy.ofCode : Nat → Option Policy
  | 0 => some .closed
  | 1 => some .opened
  | _ => none

/-! ### Requests (R65, R66) -/

/-- A READ, WRITE, RENEW, RETURN or PROBE frame as it arrives: the fields of Table 4-1 that its kind uses. -/
structure Request where
  kind : ReqKind
  src : StationNum
  seq : Byte
  grant : BitVec 16
  gen : Byte
  offset : BitVec 16
  count : Byte
  payload : List Line
  deriving DecidableEq, Repr

/-- An arrival: a received frame that passed the receive filter (R131), by its kind. -/
inductive Arrival where
  | hello (src : StationNum) (seq : Byte) (epoch : BitVec 16) (start : Byte)
  | request (r : Request)
  | noticeAck (src : StationNum) (seq : Byte) (grant : BitVec 16) (gen : Byte)
  | unknown (src : StationNum) (seq : Byte) (kind : Byte)
  deriving DecidableEq, Repr

/-- The source station of an arrival (R46). -/
def Arrival.src : Arrival → StationNum
  | .hello src _ _ _ => src
  | .request r => r.src
  | .noticeAck src _ _ _ => src
  | .unknown src _ _ => src

/-- The kind code of a sequenced request (R186). -/
def ReqKind.code : ReqKind → Byte
  | .read => 2
  | .write => 3
  | .renew => 4
  | .returnGrant => 5
  | .probe => 6

/-- The kind code of HELLO (R186). -/
def helloCode : Byte := 1

/-- The kind code of NOTICE_ACK (R186). -/
def noticeAckCode : Byte := 7

end Sys2Proof.Machine
end

