-- ==== Sys2Proof/Machine/Results.lean ====
section
/-! DEFINITION. The codes of R189, Table 11-7 and Table 11-10, and the four words of a completion record (R189). The
results that each command's CMD_DONE carries (Table 11-9) are packed where the command is executed. -/

namespace Sys2Proof.Machine

/-- Reply status codes (Table 11-7). -/
def ReplyStatus.code : ReplyStatus → Byte
  | .ok => 0x00
  | .busy => 0x01
  | .held => 0x02
  | .badKind => 0x03
  | .unknownStation => 0x04
  | .stationFull => 0x05
  | .barred => 0x06
  | .notSynced => 0x07
  | .outOfOrder => 0x08
  | .badRef => 0x09
  | .stale => 0x0A
  | .closed => 0x0B
  | .notHolder => 0x0C
  | .noRight => 0x0D
  | .badLength => 0x0E
  | .outOfWindow => 0x0F
  | .noCredit => 0x10
  | .notTimed => 0x11
  | .memFault => 0x12

/-- Command status codes (Table 11-10). -/
def CmdStatus.code : CmdStatus → BitVec 8
  | .ok => 0x00
  | .badCommand => 0x01
  | .badField => 0x02
  | .badWindow => 0x03
  | .noStation => 0x04
  | .quota => 0x05
  | .conflict => 0x06
  | .tableFull => 0x07
  | .badRef => 0x08
  | .stale => 0x09
  | .closed => 0x0A
  | .inFlight => 0x0B
  | .stationFull => 0x0C
  | .holdsGrants => 0x0D
  | .inUse => 0x0E
  | .notHeld => 0x0F
  | .alreadyHeld => 0x10

/-- Grant state codes (R189). -/
def Body.code : Body → BitVec 2
  | .free => 0
  | .live _ => 1
  | .closing _ _ => 2

/-- Close cause codes (R189); 0 stands for absent. -/
def Cause.code : Cause → BitVec 4
  | .returned => 1
  | .revoked => 2
  | .expired => 3
  | .swept => 4
  | .restarted => 5

/-- Notice state and outcome codes (R189); 0 stands for absent. -/
def Notice.code : Notice → BitVec 4
  | .notDue => 1
  | .queued => 2
  | .awaitAck _ _ => 3
  | .acked => 4
  | .unacked => 5
  | .abandoned => 6

/-- Rights as two bits, READ low (R189). -/
def Rights.code (r : Rights) : BitVec 2 := BitVec.ofBool r.hasWrite ++ BitVec.ofBool r.hasRead

/-- Station state codes (R189). -/
def Station.stateCode (r : Station) : BitVec 2 := if r.barred then 2 else 1

/-- Hold state codes (Table 11-3). -/
def HoldState.code : HoldState → BitVec 2
  | .running => 0
  | .draining => 1
  | .held => 2

/-- Link state codes (Table 11-3). -/
def LinkState.code : LinkState → BitVec 2
  | .down => 0
  | .training => 1
  | .up => 2

/-- Tick period codes (Table 11-8). -/
def TickPeriod.code : TickPeriod → BitVec 3
  | .us100 => 0
  | .ms1 => 1
  | .ms10 => 2
  | .ms100 => 3

/-- Policy codes (Table 11-8). -/
def Policy.code : Policy → BitVec 1
  | .closed => 0
  | .opened => 1

/-- The holder station of a holder, 0 for SHARED, where a record has both a station field and a SHARED bit. -/
def Holder.stationBits : Holder → StationNum
  | .station n => n
  | .shared => 0

/-- Is the holder SHARED? -/
def Holder.isShared : Holder → Bool
  | .station _ => false
  | .shared => true

/-- A reference as a result word: grant number in [15:0], generation in [23:16] (R189). -/
def refWord (g : GrantNum) (gen : BitVec 8) : Word := number 0 16 g.val ||| place 16 gen

/-- The four words of a completion record (R189). -/
def Completion.words : Completion → Record
  | .cmdDone code tag status w1 w2 w3 =>
    #v[place 0 (1 : BitVec 4) ||| place 4 code ||| place 8 status.code ||| place 16 tag, w1, w2, w3]
  | .retired g gen holder cause outcome cookie =>
    #v[place 0 (2 : BitVec 4),
      refWord g gen ||| place 24 holder.stationBits ||| flag 30 holder.isShared,
      place 0 cause.code ||| place 4 outcome.code ||| place 16 cookie, 0]
  | .admitted station slot => #v[place 0 (3 : BitVec 4), place 0 station ||| number 8 4 slot.val, 0, 0]
  | .restarted station epoch swept merged =>
    #v[place 0 (4 : BitVec 4), place 0 station ||| number 8 8 merged, place 0 epoch, number 0 16 swept]
  | .holdReached => #v[place 0 (5 : BitVec 4), 0, 0, 0]

/-- The four words that the head words show: those of the head record, or kind EMPTY and zeros (R165). -/
def headWords : List Completion → Record
  | [] => #v[0, 0, 0, 0]
  | c :: _ => c.words

end Sys2Proof.Machine
end

