-- ==== Sys2Proof/Machine/Frames.lean ====
section
/-! DEFINITION. Link frames as bytes (R186, R187, Table 11-6), their CRC-32, and the receive filter (R132). -/

namespace Sys2Proof.Machine

/-! ### CRC-32 (R132) -/

/-- One bit of the CRC-32, bits taken least significant first (log 6). -/
def crcBit (c : Word) : Word := if c.getLsbD 0 then (c >>> 1) ^^^ Config.crcPolynomial else c >>> 1

/-- One byte of the CRC-32. -/
def crcByte (c : Word) (b : Byte) : Word := (List.range 8).foldl (fun x _ => crcBit x) (c ^^^ b.setWidth 32)

/-- The CRC-32 of the bytes of header and payload (R132): initial value FFFFFFFFH, result inverted. -/
def crc32 (bs : List Byte) : Word := ~~~(bs.foldl crcByte 0xFFFFFFFF#32)

/-! ### Bytes -/

/-- The `n` bytes of a number, least significant first (R186). -/
def bytesLE (n : Nat) {m : Nat} (x : BitVec m) : List Byte := (List.range n).map (fun i => x.extractLsb' (8 * i) 8)

/-- The number of width `m` that bytes spell, least significant first (R186). -/
def ofBytesLE (m : Nat) : List Byte → BitVec m
  | [] => 0
  | b :: bs => (ofBytesLE m bs <<< 8) ||| b.setWidth m

/-- The 64 bytes of a line in their order on the link (log 13). -/
def lineBytes (l : Line) : List Byte := bytesLE 64 l

/-- The lines of a payload of `n` lines. -/
def linesOf : Nat → List Byte → List Line
  | 0, _ => []
  | n + 1, bs => ofBytesLE 512 (bs.take 64) :: linesOf n (bs.drop 64)

/-- A frame: header, payload lines, and the CRC-32 in the trailer, least significant byte first (R131, R186). -/
def sealFrame (header : List Byte) (payload : List Line) : List Byte :=
  let body := header ++ payload.flatMap lineBytes
  body ++ bytesLE 4 (crc32 body)

/-- A station number in its byte, bits [7:6] sent 0 (R186). -/
def stationByte (n : StationNum) : Byte := n.setWidth 8

/-! ### Frames the part sends -/

/-- The bytes of a REPLY frame (Table 11-6). -/
def Reply.bytes (r : Reply) : List Byte :=
  sealFrame
    ([0x81#8, stationByte r.dest, stationByte r.src, r.seq, BitVec.ofNat 8 r.data.length,
        (BitVec.ofBool r.replayed).setWidth 8] ++
      bytesLE 2 r.grant ++ [r.gen, r.kind, r.status.code, 0#8] ++ bytesLE 4 r.value)
    r.data

/-- The bytes of a NOTICE frame (Table 11-6). -/
def NoticeFrame.bytes (f : NoticeFrame) : List Byte :=
  sealFrame
    ([0x82#8, stationByte f.dest, stationByte f.src, 0#8, 0#8, 0#8] ++
      bytesLE 2 (BitVec.ofNat 16 f.grant.val) ++
      [f.gen, f.cause.code.setWidth 8, BitVec.ofNat 8 f.tryNo, 0#8, 0#8, 0#8, 0#8, 0#8])
    []

/-! ### Frames the part receives -/

/-- The bytes of a request frame sent to station `dest` (Table 11-6), header bytes without use 0. -/
def Arrival.bytes (dest : StationNum) : Arrival → List Byte
  | .hello src seq epoch start =>
    sealFrame ([helloCode, stationByte dest, stationByte src, seq, 0#8, 0#8] ++ bytesLE 2 epoch ++
      [start, 0#8, 0#8, 0#8, 0#8, 0#8, 0#8, 0#8]) []
  | .request r =>
    sealFrame ([r.kind.code, stationByte dest, stationByte r.src, r.seq, BitVec.ofNat 8 r.payload.length, 0#8] ++
      bytesLE 2 r.grant ++ [r.gen, 0#8, 0#8, r.count] ++ bytesLE 2 r.offset ++ [0#8, 0#8]) r.payload
  | .noticeAck src seq grant gen =>
    sealFrame ([noticeAckCode, stationByte dest, stationByte src, seq, 0#8, 0#8] ++ bytesLE 2 grant ++
      [gen, 0#8, 0#8, 0#8, 0#8, 0#8, 0#8, 0#8]) []
  | .unknown src seq kind =>
    sealFrame ([kind, stationByte dest, stationByte src, seq, 0#8, 0#8] ++
      [0#8, 0#8, 0#8, 0#8, 0#8, 0#8, 0#8, 0#8, 0#8, 0#8]) []

/-- May a frame with this source arrive at a part whose number is `self` (R132, item 4)? -/
def sourceAccepted (self src : StationNum) : Bool := stationInRange src && src != self

/-- The receive filter: is the frame of these bytes accepted by a part whose number is `self` (R132)? -/
def filterAccepts (self : StationNum) (bs : List Byte) : Bool :=
  let body := bs.take (bs.length - 4)
  let dest : StationNum := (bs.getD 1 0).extractLsb' 0 6
  let src : StationNum := (bs.getD 2 0).extractLsb' 0 6
  decide (20 ≤ bs.length) &&
  decide ((bs.length - 20) % 64 = 0) &&
  decide ((bs.length - 20) / 64 ≤ Config.maxCount) &&
  decide ((bs.length - 20) / 64 = (bs.getD 4 0).toNat) &&
  bytesLE 4 (crc32 body) == bs.drop (bs.length - 4) &&
  dest == self && stationInRange dest &&
  sourceAccepted self src

/-- A request of kind `k` with the header fields and payload of a frame (Table 4-1). A payload carried by a kind other
than WRITE is ignored (R66), and so are the count and offset of a kind that does not use them. -/
def requestOf (k : ReqKind) (bs : List Byte) : Request :=
  let usesCount := k == .read || k == .write
  { kind := k
    src := (bs.getD 2 0).extractLsb' 0 6
    seq := bs.getD 3 0
    grant := ofBytesLE 16 ((bs.drop 6).take 2)
    gen := bs.getD 8 0
    offset := if usesCount then ofBytesLE 16 ((bs.drop 12).take 2) else 0
    count := if usesCount then bs.getD 11 0 else 0
    payload := if k == .write then linesOf (bs.getD 4 0).toNat (bs.drop 16) else [] }

/-- The arrival that an accepted frame is, by the kind code in its byte 0 (R131, Table 11-6). -/
def arrivalOf (bs : List Byte) : Arrival :=
  let src : StationNum := (bs.getD 2 0).extractLsb' 0 6
  let seq := bs.getD 3 0
  match (bs.getD 0 0).toNat with
  | 1 => .hello src seq (ofBytesLE 16 ((bs.drop 6).take 2)) (bs.getD 8 0)
  | 2 => .request (requestOf .read bs)
  | 3 => .request (requestOf .write bs)
  | 4 => .request (requestOf .renew bs)
  | 5 => .request (requestOf .returnGrant bs)
  | 6 => .request (requestOf .probe bs)
  | 7 => .noticeAck src seq (ofBytesLE 16 ((bs.drop 6).take 2)) (bs.getD 8 0)
  | _ => .unknown src seq (bs.getD 0 0)

/-- What the receiver makes of the bytes of a frame: an arrival, or nothing where the filter discards it (R131, R132). -/
def receive (self : StationNum) (bs : List Byte) : Option Arrival :=
  if filterAccepts self bs then some (arrivalOf bs) else none

end Sys2Proof.Machine
end

