-- ==== Sys2Proof/Machine/Ops.lean ====
section
/-! DEFINITION. The named operations over the grant table, the station table, the completion queue, the notice queues
and the transmitter. Every command's meaning is made of them. -/

namespace Sys2Proof.Machine

/-! ### Accessors -/

/-- The grant record of an entry. -/
def State.grant (s : State) (g : GrantNum) : Grant := s.grants[g.val]'g.isLt

/-- `s` with the grant record of an entry replaced. -/
def State.setGrant (s : State) (g : GrantNum) (x : Grant) : State := { s with grants := s.grants.set g.val x g.isLt }

/-- `s` with the state and fields of a grant entry replaced; generation and in-flight count stay. -/
def State.setBody (s : State) (g : GrantNum) (b : Body) : State := s.setGrant g { s.grant g with body := b }

/-- A slot of the station table. -/
def State.slot (s : State) (sl : SlotNum) : Slot := s.slots[sl.val]'sl.isLt

/-- `s` with a slot of the station table replaced. -/
def State.setSlot (s : State) (sl : SlotNum) (x : Slot) : State := { s with slots := s.slots.set sl.val x sl.isLt }

/-- `s` with the station record of a slot, if there is one, changed by `f`. -/
def State.modifyRecord (s : State) (sl : SlotNum) (f : Station → Station) : State :=
  s.setSlot sl { s.slot sl with record := (s.slot sl).record.map f }

/-- A transfer context. -/
def State.ctx (s : State) (c : CtxNum) : Ctx := s.ctxs[c.val]'c.isLt

/-- `s` with a transfer context replaced. -/
def State.setCtx (s : State) (c : CtxNum) (x : Ctx) : State := { s with ctxs := s.ctxs.set c.val x c.isLt }

/-- Is the part held in reset (R185)? -/
def State.inReset (s : State) : Bool := s.resetnLow || s.supplyOut

/-! ### Grant records (R1 to R7) -/

/-- The fields present in LIVE and CLOSING, absent in FREE (R1). -/
def Body.terms? : Body → Option Terms
  | .free => none
  | .live t => some t
  | .closing t _ => some t

/-- Is the entry LIVE? -/
def Body.isLive : Body → Bool
  | .live _ => true
  | .free | .closing _ _ => false

/-- Is the entry FREE? -/
def Body.isFree : Body → Bool
  | .free => true
  | .live _ | .closing _ _ => false

/-- The holder of a LIVE or CLOSING entry. -/
def Body.holder? (b : Body) : Option Holder := b.terms?.map (fun t => t.holder)

/-- The window end (R2). -/
def Terms.windowEnd (t : Terms) : Nat := t.base + t.length

/-- Is a line inside the window (00_scope, Node memory and lines)? -/
def Terms.covers (t : Terms) (line : Nat) : Bool := decide (t.base ≤ line) && decide (line < t.windowEnd)

/-- A notice state is finished (R5). -/
def Notice.finished : Notice → Bool
  | .notDue | .acked | .unacked | .abandoned => true
  | .queued | .awaitAck _ _ => false

/-- A notice state is QUEUED or AWAIT_ACK. -/
def Notice.isOpen (n : Notice) : Bool := !n.finished

/-- Tries sent, 0 before the first send (R112). -/
def Notice.triesSent : Notice → Nat
  | .awaitAck tries _ => tries
  | .notDue | .queued | .acked | .unacked | .abandoned => 0

/-- A CLOSING record is ready (R35) and has not been handed over yet. -/
def Grant.isReady (x : Grant) : Bool :=
  match x.body with
  | .closing _ c => x.inFlight == 0 && c.notice.finished && !c.retireWait
  | .free | .live _ => false

/-- The LIVE grants of a holder, in ascending grant number (R150, R53). -/
def State.liveOf (s : State) (h : Holder) : List GrantNum :=
  (List.finRange 512).filter (fun g => (s.grant g).body.isLive && (s.grant g).body.holder? == some h)

/-! ### The free list and the window index (R10, R13, R14) -/

/-- The place of entry `g`, base `base`, comes before that of entry `h` in the window index (R13). -/
def State.indexBefore (s : State) (base : Nat) (g h : GrantNum) : Bool :=
  match (s.grant h).body.terms? with
  | some t => decide (base < t.base) || (decide (base = t.base) && decide (g.val < h.val))
  | none => false

/-- The window index `l` with entry `g`, base `base`, at the place R13 gives. -/
def State.insertIndex (s : State) (base : Nat) (g : GrantNum) : List GrantNum → List GrantNum
  | [] => [g]
  | h :: rest => if s.indexBefore base g h then g :: h :: rest else h :: s.insertIndex base g rest

/-- The highest window end among the entries of the index, 0 when it is empty (R14). -/
def State.highestEnd (s : State) : Nat :=
  s.index.foldl (fun m g => match (s.grant g).body.terms? with | some t => max m t.windowEnd | none => m) 0

/-- The entries of the index whose window contains a line, in index order (R14). -/
def State.covering (s : State) (line : Nat) : List GrantNum :=
  s.index.filter (fun g => match (s.grant g).body.terms? with | some t => t.covers line | none => false)

/-! ### The conflict rule (R16) -/

/-- The two holders differ; SHARED differs from every holder (R16). -/
def Holder.differs : Holder → Holder → Bool
  | .station a, .station b => a != b
  | .station _, .shared | .shared, .station _ | .shared, .shared => true

/-- The two windows share a line: each one's base is below the other's window end (R16). -/
def Terms.sharesLine (t u : Terms) : Bool := decide (t.base < u.windowEnd) && decide (u.base < t.windowEnd)

/-- Two windows conflict (R16). -/
def Terms.conflicts (t u : Terms) : Bool :=
  t.sharesLine u && t.holder.differs u.holder && (t.rights.hasWrite || u.rights.hasWrite)

/-- The first entry in index order, other than `skip`, that conflicts with a proposed window (R17, R18). -/
def State.firstConflict (s : State) (skip : Option GrantNum) (t : Terms) : Option GrantNum :=
  s.index.find? (fun g =>
    some g != skip && (match (s.grant g).body.terms? with | some u => t.conflicts u | none => false))

/-! ### References (R8) -/

/-- How a reference resolves (R8). -/
inductive Resolution where
  | badRef
  | stale (g : GrantNum)
  | closed (g : GrantNum)
  | live (g : GrantNum) (t : Terms)
  deriving DecidableEq, Repr

/-- A reference is resolved against the table (R8). -/
def State.resolve (s : State) (grant : BitVec 16) (gen : BitVec 8) : Resolution :=
  if h : grant.toNat < 512 then
    let g : GrantNum := ⟨grant.toNat, h⟩
    if (s.grant g).gen = gen then
      match (s.grant g).body with
      | .free => .stale g
      | .closing _ _ => .closed g
      | .live t => .live g t
    else .stale g
  else .badRef

/-! ### Stations (R45, R46) -/

/-- Does the slot's record name the station? -/
def Slot.names (x : Slot) (n : StationNum) : Bool :=
  match x.record with
  | some r => r.number == n
  | none => false

/-- The slot whose record, ADMITTED or BARRED, names the station (R46). -/
def State.findSlot (s : State) (n : StationNum) : Option SlotNum :=
  (List.finRange 16).find? (fun sl => (s.slot sl).names n)

/-- The lowest-numbered VACANT slot (R45). -/
def State.vacantSlot (s : State) : Option SlotNum :=
  (List.finRange 16).find? (fun sl => (s.slot sl).record.isNone)

/-- A created station record (R45). -/
def newStation (barred : Bool) (n : StationNum) (quota : Nat) : Station :=
  { barred := barred, number := n, quota := quota, held := 0, session := none, pending := none, cache := none,
    admittedWaiting := false, restartWaiting := none }

/-- A record is created in a slot (R45). -/
def createStation (sl : SlotNum) (r : Station) (s : State) : State :=
  s.setSlot sl { s.slot sl with record := some r }

/-- The held count of a station holder changes; SHARED grants are counted against no station (R21). -/
def changeHeld (f : Nat → Nat) (h : Holder) (s : State) : State :=
  match h with
  | .shared => s
  | .station n =>
    match s.findSlot n with
    | some sl => s.modifyRecord sl (fun r => { r with held := f r.held })
    | none => s

/-! ### The completion queue (chapter 9) -/

/-- A record is placed at the tail of the completion queue (R164). -/
def placeRecord (c : Completion) (s : State) : State := { s with cq := s.cq ++ [c] }

/-- The backlog is empty and a completion slot is free (R141, R167). -/
def State.slotFree (s : State) : Bool := s.backlog.isEmpty && decide (s.cq.length < Config.cqCapacity)

/-- An event joins the tail of the backlog, which latches BACKLOG (R167). -/
def joinBacklog (e : Event) (s : State) : State :=
  { s with backlog := s.backlog ++ [e], alerts := { s.alerts with backlog := true } }

/-- A grant entry is freed by retirement: R22, steps 1 to 5. -/
def freeGrant (g : GrantNum) (h : Holder) (s : State) : State :=
  changeHeld (fun n => n - 1) h
    { s.setGrant g { gen := (s.grant g).gen + 1, inFlight := 0, body := .free } with
      index := s.index.filter (fun h => h != g)
      freeList := s.freeList ++ [g] }

/-- A grant retires: its RETIRED record, read before the fields become absent, is placed and the entry is freed (R39). -/
def retire (g : GrantNum) (s : State) : State :=
  match (s.grant g).body with
  | .closing t c =>
    placeRecord (.retired g (s.grant g).gen t.holder c.cause c.notice t.cookie) (freeGrant g t.holder s)
  | .free | .live _ => s

/-- The retire wait of a CLOSING record is set (R35). -/
def setRetireWait (g : GrantNum) (s : State) : State :=
  match (s.grant g).body with
  | .closing t c => s.setBody g (.closing t { c with retireWait := true })
  | .free | .live _ => s

/-- A grant is tested for readiness and, found ready, is handed to the Completion Queue: it retires at once, or joins
the backlog with its retire wait set (R35, R167). -/
def testReady (g : GrantNum) (s : State) : State :=
  if (s.grant g).isReady then
    if s.slotFree then retire g s else joinBacklog (.grant g) (setRetireWait g s)
  else s

/-- Several grants are tested in turn. -/
def testReadyAll (gs : List GrantNum) (s : State) : State := gs.foldl (fun s g => testReady g s) s

/-- STATION_ADMITTED is handed over (R50, R167). -/
def handAdmitted (sl : SlotNum) (n : StationNum) (s : State) : State :=
  if s.slotFree then placeRecord (.admitted n sl) s
  else joinBacklog (.admitted sl) (s.modifyRecord sl (fun r => { r with admittedWaiting := true }))

/-- A restart is merged into the waiting restarted event (R55). -/
def RestartWait.merge (w : RestartWait) (epoch : BitVec 16) (swept : Nat) : RestartWait :=
  { epoch := epoch, swept := min (w.swept + swept) Config.maxSwept, merged := min (w.merged + 1) Config.maxMerged }

/-- STATION_RESTARTED is handed over, or merged into the one already waiting (R55, R167). -/
def handRestarted (sl : SlotNum) (r : Station) (epoch : BitVec 16) (swept : Nat) (s : State) : State :=
  match r.restartWaiting with
  | some w => s.modifyRecord sl (fun x => { x with restartWaiting := some (w.merge epoch swept) })
  | none =>
    if s.slotFree then placeRecord (.restarted r.number epoch swept 1) s
    else
      joinBacklog (.restarted sl)
        (s.modifyRecord sl (fun x =>
          { x with restartWaiting := some { epoch := epoch, swept := swept, merged := 1 } }))

/-- HOLD_REACHED is handed over (R176, R167). -/
def handHoldReached (s : State) : State :=
  if s.slotFree then placeRecord .holdReached s else joinBacklog .holdReached s

/-- A backlog entry that has left the backlog is placed, with the effects of its kind (R169, step 1). -/
def placeEvent (e : Event) (s : State) : State :=
  match e with
  | .grant g => retire g s
  | .admitted sl =>
    match (s.slot sl).record with
    | some r => placeRecord (.admitted r.number sl) (s.modifyRecord sl (fun x => { x with admittedWaiting := false }))
    | none => s
  | .restarted sl =>
    match (s.slot sl).record with
    | some r =>
      match r.restartWaiting with
      | some w =>
        placeRecord (.restarted r.number w.epoch w.swept w.merged)
          (s.modifyRecord sl (fun x => { x with restartWaiting := none }))
      | none => s
    | none => s
  | .holdReached => placeRecord .holdReached s

/-- A free slot is given to the head of the backlog, if there is one (R169). -/
def placeBacklogHead (s : State) : State :=
  match s.backlog with
  | [] => s
  | e :: rest => if s.cq.length < Config.cqCapacity then placeEvent e { s with backlog := rest } else s

/-! ### Hold Control (R176) -/

/-- Is every transfer context IDLE? -/
def State.allIdle (s : State) : Bool := s.ctxs.all (fun x => x.state == .idle)

/-- The number of transfer contexts not IDLE (R159). -/
def State.busyContexts (s : State) : Nat := s.ctxs.countP (fun x => x.state != .idle)

/-- Hold Control's test at a context's return to IDLE: a drain whose contexts are all IDLE ends in HELD (R176). -/
def drainTest (s : State) : State :=
  if s.hold = .draining ∧ s.allIdle = true then handHoldReached { s with hold := .held } else s

/-! ### The transmitter (R134) -/

/-- The free transmitter chooses, in link state UP: the head of the reply queue, otherwise the first offered notice
frame (R134). -/
def txTake (s : State) : State :=
  if s.link = .up ∧ s.tx = .free then
    match s.replyQ with
    | _ :: _ => { s with tx := .reply }
    | [] =>
      match s.offers with
      | [] => s
      | sl :: rest =>
        match (s.slot sl).frame with
        | .offered f => { s.setSlot sl { s.slot sl with frame := .sending } with tx := .notice (some sl) f, offers := rest }
        | .none | .sending => s
  else s

/-! ### Notice queues (chapter 6) -/

/-- A notice falls due at closing (R33). -/
def noticeDue (cause : Cause) (t : Terms) : Bool :=
  (cause == .revoked || cause == .swept || cause == .expired) && t.notify && !t.holder.isShared

/-- A grant joins the tail of its holder's notice queue (R110). -/
def enqueueNotice (g : GrantNum) (h : Holder) (s : State) : State :=
  match h with
  | .shared => s
  | .station n =>
    match s.findSlot n with
    | some sl => s.setSlot sl { s.slot sl with queue := (s.slot sl).queue ++ [g] }
    | none => s

/-- The closing act on a LIVE record (R32), less the offer of a new head's frame and the test for readiness, which the
event that closes makes in the order its rule gives. -/
def closeGrant (cause : Cause) (g : GrantNum) (s : State) : State :=
  match (s.grant g).body with
  | .live t =>
    if noticeDue cause t then
      enqueueNotice g t.holder (s.setBody g (.closing t { cause := cause, notice := .queued, retireWait := false }))
    else s.setBody g (.closing t { cause := cause, notice := .notDue, retireWait := false })
  | .free | .closing _ _ => s

/-- Several grants are closed in turn. -/
def closeAll (cause : Cause) (gs : List GrantNum) (s : State) : State := gs.foldl (fun s g => closeGrant cause g s) s

/-- The notice state of a record is replaced. -/
def setNotice (g : GrantNum) (n : Notice) (s : State) : State :=
  match (s.grant g).body with
  | .closing t c => s.setBody g (.closing t { c with notice := n })
  | .free | .live _ => s

/-- The notice state of the head of a slot's queue, if it has a head in CLOSING. -/
def State.headNotice (s : State) (sl : SlotNum) : Option Notice :=
  match (s.slot sl).queue with
  | [] => none
  | g :: _ =>
    match (s.grant g).body with
    | .closing _ c => some c.notice
    | .free | .live _ => none

/-- The NOTICE frame of a CLOSING grant (R112). -/
def noticeFrame (s : State) (g : GrantNum) (t : Terms) (c : Closing) : NoticeFrame :=
  { dest := t.holder.stationBits, src := s.self, grant := g, gen := (s.grant g).gen, cause := c.cause,
    tryNo := c.notice.triesSent + 1 }

/-- The frame of a slot's head is built and offered: the slot joins the offer list (R111, R112). -/
def offerFrame (sl : SlotNum) (s : State) : State :=
  match (s.slot sl).queue with
  | [] => s
  | g :: _ =>
    match (s.grant g).body with
    | .closing t c =>
      { s.setSlot sl { s.slot sl with frame := .offered (noticeFrame s g t c) } with offers := s.offers ++ [sl] }
    | .free | .live _ => s

/-- The frame of a head still QUEUED is offered when the link is UP and no frame of it is under way (R111). -/
def offerNewHead (sl : SlotNum) (s : State) : State :=
  if s.link = .up ∧ (s.slot sl).frame = .none ∧ s.headNotice sl = some .queued then offerFrame sl s else s

/-- The interval of a slot's head has expired: the link is UP, the head is in AWAIT_ACK with head frame state NONE, and
its ticks since last send are at or above the notice interval (R114). -/
def State.intervalExpired (s : State) (sl : SlotNum) : Bool :=
  decide (s.link = .up) && decide ((s.slot sl).frame = .none) &&
    (match s.headNotice sl with | some (.awaitAck _ ticks) => decide (s.noticeInterval ≤ ticks) | _ => false)

/-- Tries remain for the head of a slot (R115). -/
def State.triesRemain (s : State) (sl : SlotNum) : Bool :=
  match s.headNotice sl with
  | some n => decide (n.triesSent < s.noticeTries)
  | none => false

/-- A head whose interval has expired with tries remaining is offered again (R115). -/
def resendHead (sl : SlotNum) (s : State) : State :=
  if s.intervalExpired sl = true ∧ s.triesRemain sl = true then offerFrame sl s else s

/-- A tick counts the interval of a slot's head in AWAIT_ACK with head frame state NONE while the link is UP; the count
rises only while below the interval (R114, log 10). -/
def countInterval (sl : SlotNum) (s : State) : State :=
  if s.link = .up ∧ (s.slot sl).frame = .none then
    match (s.slot sl).queue, s.headNotice sl with
    | g :: _, some (.awaitAck tries ticks) =>
      if ticks < s.noticeInterval then setNotice g (.awaitAck tries (ticks + 1)) s else s
    | _, _ => s
  else s

/-- The frame of a slot is withdrawn when offered, and detached from the queue when in transmission (R117 step 3,
R120 step 3). -/
def withdrawFrame (sl : SlotNum) (s : State) : State :=
  match (s.slot sl).frame with
  | .none => s
  | .offered _ =>
    { s.setSlot sl { s.slot sl with frame := .none } with offers := s.offers.filter (fun x => x != sl) }
  | .sending =>
    { s.setSlot sl { s.slot sl with frame := .none } with
      tx := match s.tx with
        | .notice (some x) f => if x = sl then .notice none f else .notice (some x) f
        | t => t }

/-- The head of a slot's queue leaves it with an outcome (R117, steps 1 to 3). -/
def leaveQueue (sl : SlotNum) (outcome : Notice) (s : State) : State :=
  match (s.slot sl).queue with
  | [] => s
  | g :: rest =>
    let s1 := withdrawFrame sl (setNotice g outcome s)
    s1.setSlot sl { s1.slot sl with queue := rest }

/-- A head whose interval has expired with no tries remaining ends UNACKED and is tested for readiness (R115, R117). -/
def endUnacked (sl : SlotNum) (s : State) : State :=
  if s.intervalExpired sl = true ∧ s.triesRemain sl = false then
    match (s.slot sl).queue with
    | [] => s
    | g :: _ => testReady g (leaveQueue sl .unacked s)
  else s

/-- A slot's whole notice queue ends at its station's restart (R120): the queue is emptied and its frame withdrawn or
detached. The notice states are set by the restart (R53). -/
def abandonQueue (sl : SlotNum) (s : State) : State :=
  let s1 := withdrawFrame sl s
  s1.setSlot sl { s1.slot sl with queue := [] }

/-- `f` is done for every slot in ascending slot number. -/
def forSlots (f : SlotNum → State → State) (s : State) : State := (List.finRange 16).foldl (fun s sl => f sl s) s

end Sys2Proof.Machine
end

