-- ==== Sys2Proof/Machine/Contexts.lean ====
section
/-! DEFINITION. The operations of the Transfer Engine and of the link's leaving and entering UP: contexts, the node-bus
port and its arbiter, the end of a memory phase (chapter 5), and R127, R128. -/

namespace Sys2Proof.Machine

/-! ### Node memory as the part has written it (R96, log 12) -/

/-- A line write accepted by the node bus: the list stays sorted by line address, one entry for each. -/
def nodeWrite (a : Nat) (l : Line) : List (Nat × Line) → List (Nat × Line)
  | [] => [(a, l)]
  | (b, m) :: rest =>
    if a < b then (a, l) :: (b, m) :: rest
    else if a = b then (a, l) :: rest
    else (b, m) :: nodeWrite a l rest

/-- What the part's accepted line writes have last set a line to, if any of them has. -/
def nodeRead (a : Nat) : List (Nat × Line) → Option Line
  | [] => none
  | (b, m) :: rest => if a = b then some m else nodeRead a rest

/-- The canonical form: line addresses strictly rising. -/
def nodeMemWf : List (Nat × Line) → Bool
  | [] => true
  | [_] => true
  | (a, _) :: (b, m) :: rest => decide (a < b) && nodeMemWf ((b, m) :: rest)

/-! ### Contexts and the arbiter (R92 to R95) -/

/-- The memory phase of a context is under way (R92). -/
def Ctx.inMemoryPhase (x : Ctx) : Bool := x.state == .readMem || x.state == .writeMem

/-- A context has a line left (R93). -/
def Ctx.lineLeft (x : Ctx) : Bool := x.inMemoryPhase && !x.fault && decide (x.issued < x.count)

/-- The rotating order of the arbiter: from the context after the one last served, that one last (R95). -/
def rotation (last : CtxNum) : List CtxNum := (List.finRange 8).map (fun k => last + 1 + k)

/-- The next context in rotating order that has a line left (R95). -/
def State.nextContext (s : State) : Option CtxNum := (rotation s.lastServed).find? (fun c => (s.ctx c).lineLeft)

/-- The line operation a context starts next (R94): of line first line address + lines issued, and for a write with the
data of buffer position lines issued. -/
def Ctx.nextOp (x : Ctx) : LineOp :=
  if x.state = .writeMem then .write (x.first + x.issued) (x.buffer[x.issued]?.getD 0) else .read (x.first + x.issued)

/-- The port is given to a context, which starts one line operation at once and becomes the last served (R94, R95). -/
def startLine (c : CtxNum) (s : State) : State :=
  { s.setCtx c { s.ctx c with issued := (s.ctx c).issued + 1 } with
    port := .busy (some c) (s.ctx c).nextOp
    lastServed := c }

/-- A free port is given to the next context with a line left; without one it stays free (R95). -/
def givePort (s : State) : State :=
  match s.port, s.nextContext with
  | .free, some c => startLine c s
  | _, _ => s

/-- The pending mark of a slot's record is set to none if it names the context (R60, R103). -/
def clearPending (c : CtxNum) (sl : SlotNum) (s : State) : State :=
  s.modifyRecord sl (fun r => { r with pending := if r.pending = some c then none else r.pending })

/-- A context enters a state; its other fields stay. -/
def State.enter (s : State) (c : CtxNum) (st : CtxState) : State := s.setCtx c { s.ctx c with state := st }

/-! ### The end of a memory phase (R98) -/

/-- The in-flight count of a grant falls by one, and a CLOSING grant whose count is now 0 is tested for readiness
(R98, step 1). -/
def lowerInFlight (g : GrantNum) (s : State) : State :=
  testReady g (s.setGrant g { s.grant g with inFlight := (s.grant g).inFlight - 1 })

/-- The kind of a context's request. -/
def Ctx.kind (x : Ctx) : ReqKind := if x.write then .write else .read

/-- The status of a context (Table 5-1). -/
def Ctx.status (x : Ctx) : ReplyStatus := if x.fault then .memFault else .ok

/-- The reply value of a context: the count for OK, lines done for MEM_FAULT (R99). -/
def Ctx.value (x : Ctx) : Word := BitVec.ofNat 32 (if x.fault then x.done else x.count)

/-- The context reply, addressed to `dest` (R99). -/
def Ctx.reply (x : Ctx) (src dest : StationNum) : Reply :=
  { dest := dest, src := src, seq := x.seq, grant := BitVec.ofNat 16 x.grant.val, gen := x.gen, replayed := x.replayed,
    kind := x.kind.code, status := x.status, value := x.value,
    data := if x.write = false ∧ x.fault = false then x.buffer.toList.take x.count else [] }

/-- The reply cache of a context's station is set to the transfer's outcome (R98, step 2). -/
def setCache (x : Ctx) (s : State) : State :=
  s.modifyRecord x.slot (fun r =>
    { r with cache := some { kind := x.kind, seq := x.seq, status := x.status, value := x.value } })

/-- The memory phase of a context ends (R98): steps 1 to 3, with R100 for a link not UP and R101 for an orphaned
context. A context without a station record to answer, which no run reaches, is ended like an orphaned one (log 19). -/
def endPhase (c : CtxNum) (s : State) : State :=
  let x := s.ctx c
  let s1 := lowerInFlight x.grant s
  if x.orphaned then drainTest (s1.enter c .idle)
  else
    let s2 := setCache x s1
    match (s2.slot x.slot).record with
    | none => drainTest (s2.enter c .idle)
    | some r =>
      if s2.link = .up then
        { s2.enter c .replyWait with
          replyQ := s2.replyQ ++ [{ origin := .context c, frame := x.reply s2.self r.number }] }
      else drainTest (clearPending c x.slot (s2.enter c .idle))

/-! ### The end of a line operation (R94 to R97, R107) -/

/-- A line write that the node bus accepts has written its line; a faulting one and a line read write nothing (R96,
R97). -/
def acceptWrite (op : LineOp) (res : LineResult) (s : State) : State :=
  match op, res with
  | .write a l, .done _ => { s with nodeMem := nodeWrite a l s.nodeMem }
  | .write _ _, .fault | .read _, _ => s

/-- A context in its memory phase records a line done (R96). -/
def Ctx.recordLine (x : Ctx) (data : Line) : Ctx :=
  { x with done := x.done + 1, buffer := if x.state = .readMem then x.buffer.setIfInBounds x.done data else x.buffer }

/-- The context that started a line operation takes its result, if it is in its memory phase (R96, R97). -/
def takeResult (c : CtxNum) (res : LineResult) (s : State) : State :=
  let x := s.ctx c
  if x.inMemoryPhase then
    match res with
    | .done data =>
      let s1 := s.setCtx c (x.recordLine data)
      if x.done + 1 = x.count then endPhase c s1 else s1
    | .fault =>
      endPhase c { s.setCtx c { x with fault := true } with alerts := { s.alerts with busFault := true } }
  else s

/-- A line operation ends: the port becomes free, the context that started it takes the result, unless the operation is
detached, the port is given again, and the transmitter may take a reply built (R94 to R97, R107, R134). -/
def lineEnd (res : LineResult) (s : State) : State :=
  match s.port with
  | .free => s
  | .busy owner op =>
    let s1 := acceptWrite op res { s with port := .free }
    let s2 := match owner with
      | some c => takeResult c res s1
      | none => s1
    txTake (givePort s2)

/-! ### The link leaves UP and enters UP (R127, R128) -/

/-- A context in REPLY_WAIT drops its reply and enters IDLE; the pending mark that names it is cleared (R104). -/
def dropReply (c : CtxNum) (s : State) : State :=
  if (s.ctx c).state = .replyWait then clearPending c (s.ctx c).slot (s.enter c .idle) else s

/-- Each context in REPLY_WAIT drops its reply (R104). -/
def dropReplies (s : State) : State := (List.finRange 8).foldl (fun s c => dropReply c s) s

/-- Every slot's head frame state becomes NONE (R118, R123). -/
def clearFrames (s : State) : State := { s with slots := s.slots.map (fun x => { x with frame := .none }) }

/-- The link leaves UP for `next`: R127, steps 1 to 5, and Hold Control's one test (R176). -/
def linkLeavesUp (next : LinkState) (s : State) : State :=
  let s1 := clearFrames (dropReplies s)
  let s2 := { s1 with
    link := next
    receiving := false
    tx := .free
    replyQ := []
    immCount := 0
    offers := []
    alerts := { s1.alerts with linkChange := true } }
  if s.ctxs.any (fun x => x.state == .replyWait) then drainTest s2 else s2

/-- A head whose frame is due when the link returns to UP is offered: one still QUEUED, or one in AWAIT_ACK with tries
remaining (R119). -/
def reofferHead (sl : SlotNum) (s : State) : State :=
  match s.headNotice sl with
  | some .queued => if (s.slot sl).frame = .none then offerFrame sl s else s
  | some (.awaitAck tries _) =>
    if (s.slot sl).frame = .none ∧ tries < s.noticeTries then offerFrame sl s else s
  | _ => s

/-- The link enters UP (R128): LINK_CHANGE is latched, the due heads are offered in ascending slot number, and the
transmitter takes the first. -/
def linkEntersUp (s : State) : State :=
  txTake (forSlots reofferHead
    { s with link := .up, trainingTime := Config.trainingPeriod, alerts := { s.alerts with linkChange := true } })

end Sys2Proof.Machine
end

