-- ==== Sys2Proof/Machine/Requests.lean ====
section
/-! DEFINITION. Remote requests (chapters 3 and 4): the check order, the sequence rule, replies, binding, HELLO and its
restart, NOTICE_ACK, and the meanings of the rows that are arriving frames. -/

namespace Sys2Proof.Machine

/-! ### Events -/

/-- An event of the host, of a station, of the node bus or of the part itself. While the part is held in reset the
register window is not decoded, no frame is received, no line result is taken and no block leaves its power-on values, so
the event changes nothing (R185). -/
def event (f : State → State) (s : State) : Result := if s.inReset then .next s else .next (f s)

/-! ### Immediate replies (R84, R85) -/

/-- An immediate reply is offered to the reply queue: it joins the tail and may be taken by the free transmitter, or is
lost at the limit (R84, R85, R134). -/
def immediate (r : Reply) (s : State) : State :=
  if s.immCount < Config.immediateLimit then
    txTake { s with replyQ := s.replyQ ++ [{ origin := .immediate, frame := r }], immCount := s.immCount + 1 }
  else s

/-- A reply without data (R67). -/
def plainReply (s : State) (dest : StationNum) (kind seq : Byte) (grant : BitVec 16) (gen : Byte) (status : ReplyStatus)
    (value : Word) (replayed : Bool) : Reply :=
  { dest := dest, src := s.self, seq := seq, grant := grant, gen := gen, replayed := replayed, kind := kind,
    status := status, value := value, data := [] }

/-- A request is answered at its arrival, its kind, sequence number and reference echoed (R67). -/
def answer (r : Request) (status : ReplyStatus) (value : Word) (replayed : Bool) (s : State) : State :=
  immediate (plainReply s r.src r.kind.code r.seq r.grant r.gen status value replayed) s

/-- A definitive outcome is recorded in the station record: last accepted and reply cache (R58, R77). -/
def recordOutcome (sl : SlotNum) (r : Request) (status : ReplyStatus) (value : Word) (s : State) : State :=
  s.modifyRecord sl (fun x =>
    { x with
      session := x.session.map (fun e => { e with last := r.seq })
      cache := some { kind := r.kind, seq := r.seq, status := status, value := value } })

/-- A definitive outcome answered at arrival: recorded, and its reply offered (R58, R77, R85). -/
def definitive (sl : SlotNum) (r : Request) (status : ReplyStatus) (value : Word) (replayed : Bool) (s : State) : State :=
  answer r status value replayed (recordOutcome sl r status value s)

/-! ### The sequence rule (R56) -/

/-- What the sequence rule finds (R56, R72). -/
inductive SeqVerdict where
  | discard
  | outOfOrder
  | busy
  | replay (c : Cache)
  | go (replayed : Bool)
  deriving DecidableEq, Repr

/-- Is a duplicate of this kind re-executed (READ, PROBE) rather than replayed (R56, R57)? -/
def ReqKind.reExecutes : ReqKind → Bool
  | .read | .probe => true
  | .write | .renew | .returnGrant => false

/-- The sequence rule for a frame of kind `k` with sequence number `q` (R56). -/
def sequenceRule (x : Station) (last : Byte) (k : ReqKind) (q : Byte) : SeqVerdict :=
  if q = last then
    if x.pending.isSome then .discard
    else
      match x.cache with
      | none => .outOfOrder
      | some c =>
        if c.kind = k then (if k.reExecutes then .go true else .replay c) else .outOfOrder
  else if q = last + 1 then (if x.pending.isSome then .busy else .go false)
  else .outOfOrder

/-! ### Kind's own checks and actions (steps 13 and 14) -/

/-- Step 12: the holder is the source, or SHARED for a kind other than RETURN (R73). -/
def holderPasses (k : ReqKind) (h : Holder) (src : StationNum) : Bool :=
  match h with
  | .station n => n == src
  | .shared => k != .returnGrant

/-- Step 13 for READ and WRITE: the first check that fails (R74). -/
def transferRefusal (r : Request) (t : Terms) : Option ReplyStatus :=
  if r.kind = .read ∧ t.rights.hasRead = false then some .noRight
  else if r.kind = .write ∧ t.rights.hasWrite = false then some .noRight
  else if r.count.toNat = 0 ∨ Config.maxCount < r.count.toNat then some .badLength
  else if r.kind = .write ∧ r.payload.length ≠ r.count.toNat then some .badLength
  else if t.length < r.offset.toNat + r.count.toNat then some .outOfWindow
  else none

/-- The lowest-numbered IDLE context (R76). -/
def State.idleContext (s : State) : Option CtxNum := (List.finRange 8).find? (fun c => (s.ctx c).state == .idle)

/-- The buffer with the payload lines at positions 0 and up; the remaining positions stay (R79). -/
def fillBuffer (buf : Vector Line 16) (payload : List Line) : Vector Line 16 :=
  payload.zipIdx.foldl (fun b p => b.setIfInBounds p.2 p.1) buf

/-- The fields a context takes at binding (R78, R79, R93). -/
def boundContext (x : Ctx) (sl : SlotNum) (r : Request) (g : GrantNum) (t : Terms) (replayed : Bool) : Ctx :=
  { state := if r.kind = .write then .writeMem else .readMem
    slot := sl
    seq := r.seq
    write := r.kind == .write
    grant := g
    gen := r.gen
    first := t.base + r.offset.toNat
    count := r.count.toNat
    issued := 0
    done := 0
    fault := false
    replayed := replayed
    orphaned := false
    buffer := if r.kind = .write then fillBuffer x.buffer r.payload else x.buffer }

/-- A READ or WRITE is bound to context `c`: the context, the grant's in-flight count, the pending mark and the last
accepted change, and a free port is given (R78, R95). -/
def bind (c : CtxNum) (sl : SlotNum) (r : Request) (g : GrantNum) (t : Terms) (replayed : Bool) (s : State) : State :=
  let s1 := s.setCtx c (boundContext (s.ctx c) sl r g t replayed)
  let s2 := s1.setGrant g { s.grant g with inFlight := (s.grant g).inFlight + 1 }
  givePort (s2.modifyRecord sl (fun x =>
    { x with session := x.session.map (fun e => { e with last := r.seq }), pending := some c }))

/-- Steps 13 and 14 and the binding of a READ or WRITE (R74, R76, R78). -/
def transferAction (sl : SlotNum) (r : Request) (replayed : Bool) (g : GrantNum) (t : Terms) (s : State) : State :=
  match transferRefusal r t with
  | some status => definitive sl r status 0 replayed s
  | none =>
    match s.idleContext with
    | none => answer r .busy 0 replayed s
    | some c => bind c sl r g t replayed s

/-- RENEW on a LIVE grant (R30, R80). -/
def renewAction (sl : SlotNum) (r : Request) (replayed : Bool) (g : GrantNum) (t : Terms) (s : State) : State :=
  match t.remaining with
  | none => definitive sl r .notTimed 0 replayed s
  | some n =>
    if t.credits = 0 then definitive sl r .noCredit 0 replayed s
    else
      let n' := min (n + t.renewAmount.getD 0) Config.maxLifetime
      definitive sl r .ok (BitVec.ofNat 32 n') replayed
        (s.setBody g (.live { t with remaining := some n', credits := t.credits - 1 }))

/-- RETURN of a LIVE grant by its holder (R81). -/
def returnAction (sl : SlotNum) (r : Request) (replayed : Bool) (g : GrantNum) (s : State) : State :=
  definitive sl r .ok 0 replayed (testReady g (closeGrant .returned g s))

/-- The value of a PROBE's OK: remaining lifetime, 0 when absent, in [15:0], rights in [17:16], state 1 (LIVE) in
[19:18] (R82, R187). -/
def probeValue (t : Terms) : Word :=
  number 0 16 (t.remaining.getD 0) ||| place 16 t.rights.code ||| place 18 (1 : BitVec 2)

/-- PROBE of a LIVE grant (R82). -/
def probeAction (sl : SlotNum) (r : Request) (replayed : Bool) (t : Terms) (s : State) : State :=
  definitive sl r .ok (probeValue t) replayed s

/-- The action of a request that has passed steps 9 to 12 on a LIVE grant (R68). -/
def kindAction (sl : SlotNum) (r : Request) (replayed : Bool) (g : GrantNum) (t : Terms) (s : State) : State :=
  match r.kind with
  | .read | .write => transferAction sl r replayed g t s
  | .renew => renewAction sl r replayed g t s
  | .returnGrant => returnAction sl r replayed g s
  | .probe => probeAction sl r replayed t s

/-! ### The check order (R68) -/

/-- Steps 9 to 14 (R73). -/
def resolveRequest (sl : SlotNum) (r : Request) (replayed : Bool) (s : State) : State :=
  match s.resolve r.grant r.gen with
  | .badRef => definitive sl r .badRef 0 replayed s
  | .stale _ => definitive sl r .stale 0 replayed s
  | .closed _ => definitive sl r .closed 0 replayed s
  | .live g t =>
    if holderPasses r.kind t.holder r.src then kindAction sl r replayed g t s
    else definitive sl r .notHolder 0 replayed s

/-- Step 8: the sequence rule (R72). -/
def sequenceRequest (sl : SlotNum) (x : Station) (last : Byte) (r : Request) (s : State) : State :=
  match sequenceRule x last r.kind r.seq with
  | .discard => s
  | .outOfOrder => answer r .outOfOrder 0 false s
  | .busy => answer r .busy 0 false s
  | .replay c => answer r c.status c.value true s
  | .go replayed => resolveRequest sl r replayed s

/-- Steps 2, 4, 5, 7 and 8 of a READ, WRITE, RENEW, RETURN or PROBE (R69, R71). -/
def takeRequest (r : Request) (s : State) : State :=
  match s.findSlot r.src with
  | none => answer r .unknownStation 0 false s
  | some sl =>
    match (s.slot sl).record with
    | none => answer r .unknownStation 0 false s
    | some x =>
      if x.barred then answer r .barred 0 false s
      else if s.hold ≠ .running then answer r .held 0 false s
      else
        match x.session with
        | none => answer r .notSynced 0 false s
        | some e => sequenceRequest sl x e.last r s

/-! ### HELLO (R50 to R53, R83) -/

/-- A HELLO is answered at its arrival: reference 0/0, REPLAYED clear (R67, R83). -/
def answerHello (src : StationNum) (seq : Byte) (status : ReplyStatus) (value : Word) (s : State) : State :=
  immediate (plainReply s src helloCode seq 0 0 status value false) s

/-- The context that a pending mark names is orphaned if its memory phase has not ended (R52 step 3, R101). -/
def orphanPending (p : Option CtxNum) (s : State) : State :=
  match p with
  | none => s
  | some c => if (s.ctx c).inMemoryPhase then s.setCtx c { s.ctx c with orphaned := true } else s

/-- A HELLO resynchronises its station (R52). A record without an epoch takes the HELLO's, as the restart that follows
records it (R53, step 4). -/
def resynchronise (sl : SlotNum) (x : Station) (epoch : BitVec 16) (start : Byte) (s : State) : State :=
  (orphanPending x.pending s).modifyRecord sl (fun y =>
    { y with
      session := some { epoch := (y.session.map (fun e => e.epoch)).getD epoch, last := start }
      cache := none
      pending := none })

/-- The HELLO is a restart: no epoch is recorded, or a different one (R52). -/
def isRestart (x : Station) (epoch : BitVec 16) : Bool :=
  match x.session with
  | none => true
  | some e => e.epoch != epoch

/-- The CLOSING grants of a station whose notice is QUEUED or AWAIT_ACK (R53, step 2). -/
def State.openNotices (s : State) (n : StationNum) : List GrantNum :=
  (List.finRange 512).filter (fun g =>
    match (s.grant g).body with
    | .closing t c => t.holder == .station n && c.notice.isOpen
    | .free | .live _ => false)

/-- A HELLO restarts its station: R53, steps 1 to 5, with the queue's end of R120. -/
def restartStation (sl : SlotNum) (x : Station) (epoch : BitVec 16) (s : State) : State :=
  let live := s.liveOf (.station x.number)
  let openGrants := s.openNotices x.number
  let s1 := closeAll .restarted live s
  let s2 := openGrants.foldl (fun s g => setNotice g .abandoned s) (abandonQueue sl s1)
  let s3 := s2.modifyRecord sl (fun y => { y with session := y.session.map (fun e => { e with epoch := epoch }) })
  let s4 := handRestarted sl x epoch live.length s3
  testReadyAll ((List.finRange 512).filter (fun g => live.contains g || openGrants.contains g)) s4

/-- A HELLO that reaches step 6 is handled: resynchronisation, restart where due, and the answer OK with the number of
grants closed (R51 to R53, R83). -/
def handleHello (sl : SlotNum) (x : Station) (src : StationNum) (seq : Byte) (epoch : BitVec 16) (start : Byte)
    (s : State) : State :=
  let s1 := resynchronise sl x epoch start s
  if isRestart x epoch then
    answerHello src seq .ok (BitVec.ofNat 32 (s.liveOf (.station x.number)).length) (restartStation sl x epoch s1)
  else answerHello src seq .ok 0 s1

/-- The check order of a HELLO: step 2 with auto-admission, steps 4, 5 and 6 (R50, R69, R71). -/
def takeHello (src : StationNum) (seq : Byte) (epoch : BitVec 16) (start : Byte) (s : State) : State :=
  match s.findSlot src with
  | none =>
    if s.policy = .opened ∧ s.hold = .running then
      match s.vacantSlot with
      | none => answerHello src seq .stationFull 0 s
      | some sl =>
        let x := newStation false src s.defaultQuota
        let s1 := handAdmitted sl src (createStation sl x s)
        handleHello sl x src seq epoch start s1
    else answerHello src seq .unknownStation 0 s
  | some sl =>
    match (s.slot sl).record with
    | none => answerHello src seq .unknownStation 0 s
    | some x =>
      if x.barred then answerHello src seq .barred 0 s
      else if s.hold ≠ .running then answerHello src seq .held 0 s
      else handleHello sl x src seq epoch start s

/-! ### NOTICE_ACK (R70, R116, R117) -/

/-- Does the reference match the head of the slot's notice queue (R116)? -/
def State.matchesHead (s : State) (sl : SlotNum) (grant : BitVec 16) (gen : Byte) : Option GrantNum :=
  match (s.slot sl).queue with
  | [] => none
  | g :: _ => if g.val = grant.toNat ∧ (s.grant g).gen = gen then some g else none

/-- A NOTICE_ACK: step 2, and at step 3 the match against the head of its source's queue, whose notice it ends ACKED;
one that matches nothing is ignored (R70, R116, R117). -/
def takeNoticeAck (src : StationNum) (seq : Byte) (grant : BitVec 16) (gen : Byte) (s : State) : State :=
  match s.findSlot src with
  | none => immediate (plainReply s src noticeAckCode seq grant gen .unknownStation 0 false) s
  | some sl =>
    match s.matchesHead sl grant gen with
    | none => s
    | some g => txTake (testReady g (offerNewHead sl (leaveQueue sl .acked s)))

/-- Step 1: a frame whose kind is not a request kind is answered BAD_KIND, with reference 0/0 (R69, R67). -/
def takeUnknown (src : StationNum) (seq kind : Byte) (s : State) : State :=
  if requestKindCode kind then s else immediate (plainReply s src kind seq 0 0 .badKind 0 false) s

/-! ### Arrivals (R131, R132) -/

/-- An arrival is taken whole (R65). -/
def takeArrival (a : Arrival) (s : State) : State :=
  match a with
  | .hello src seq epoch start => takeHello src seq epoch start s
  | .request r => takeRequest r s
  | .noticeAck src seq grant gen => takeNoticeAck src seq grant gen s
  | .unknown src seq kind => takeUnknown src seq kind s

/-- The reception of a frame ends while the link is UP: the frame is an arrival, unless its source is one the receive
filter discards (R131, R132). In any other link state no frame is received. -/
def arrive (a : Arrival) (s : State) : State :=
  if s.link = .up then
    let s1 := { s with receiving := false }
    if sourceAccepted s.self a.src then takeArrival a s1 else s1
  else s

/-- The reception of a frame of these bytes ends while the link is UP: the receive filter discards it, or it is an
arrival (R131, R132). -/
def receiveFrame (bs : List Byte) (s : State) : State :=
  if s.link = .up then
    let s1 := { s with receiving := false }
    match receive s.self bs with
    | some a => takeArrival a s1
    | none => s1
  else s

/-! ### The meanings -/

/-- FILTERED_FRAME (R132): the receive filter is run on the bytes; a frame that fails it is discarded. Bytes that pass
it are the arrival they spell (R131). -/
def execFilteredFrame (bytes : List Byte) (s : State) : Result := event (receiveFrame bytes) s

/-- UNKNOWN_KIND_FRAME (R69). -/
def execUnknownKindFrame (src : StationNum) (seq kind : Byte) (s : State) : Result :=
  event (arrive (.unknown src seq kind)) s

/-- HELLO (R51). -/
def execHello (src : StationNum) (seq : Byte) (epoch : BitVec 16) (start : Byte) (s : State) : Result :=
  event (arrive (.hello src seq epoch start)) s

/-- READ (R78). -/
def execRead (src : StationNum) (seq : Byte) (grant : BitVec 16) (gen : Byte) (offset : BitVec 16) (count : Byte)
    (s : State) : Result :=
  event (arrive (.request { kind := .read, src := src, seq := seq, grant := grant, gen := gen, offset := offset, count := count, payload := [] })) s

/-- WRITE (R79). -/
def execWrite (src : StationNum) (seq : Byte) (grant : BitVec 16) (gen : Byte) (offset : BitVec 16) (count : Byte)
    (payload : List Line) (s : State) : Result :=
  event (arrive (.request { kind := .write, src := src, seq := seq, grant := grant, gen := gen, offset := offset, count := count, payload := payload })) s

/-- A request of a kind that carries a reference alone (Table 4-1). -/
def plainRequest (k : ReqKind) (src : StationNum) (seq : Byte) (grant : BitVec 16) (gen : Byte) : Request :=
  { kind := k, src := src, seq := seq, grant := grant, gen := gen, offset := 0, count := 0, payload := [] }

/-- RENEW (R80). -/
def execRenew (src : StationNum) (seq : Byte) (grant : BitVec 16) (gen : Byte) (s : State) : Result :=
  event (arrive (.request (plainRequest .renew src seq grant gen))) s

/-- RETURN (R81). -/
def execReturnGrant (src : StationNum) (seq : Byte) (grant : BitVec 16) (gen : Byte) (s : State) : Result :=
  event (arrive (.request (plainRequest .returnGrant src seq grant gen))) s

/-- PROBE (R82). -/
def execProbe (src : StationNum) (seq : Byte) (grant : BitVec 16) (gen : Byte) (s : State) : Result :=
  event (arrive (.request (plainRequest .probe src seq grant gen))) s

/-- NOTICE_ACK (R116). -/
def execNoticeAck (src : StationNum) (seq : Byte) (grant : BitVec 16) (gen : Byte) (s : State) : Result :=
  event (arrive (.noticeAck src seq grant gen)) s

end Sys2Proof.Machine
end

