-- ==== Sys2Proof/Machine/GrantCommands.lean ====
section
/-! DEFINITION. The commands that act on the grant table: ISSUE, AMEND, REVOKE, SWEEP and the queries QUERY_GRANT and
QUERY_LINE (R146 to R152), as they are executed when taken. -/

namespace Sys2Proof.Machine

/-- What the execution of a command yields: the state with its effects, the status and results of its CMD_DONE record
(R143), and the grants to be tested for readiness after that record has been placed, in order (R142). -/
structure Executed where
  state : State
  status : CmdStatus
  w1 : Word
  w2 : Word
  w3 : Word
  ready : List GrantNum
  deriving DecidableEq, Repr

/-- A refused command changes no state of any block; its results are 0 (R142, R143). -/
def refuse (status : CmdStatus) (s : State) : Executed :=
  { state := s, status := status, w1 := 0, w2 := 0, w3 := 0, ready := [] }

/-- A refusal that carries results (R143, Table 11-9). -/
def refuseWith (status : CmdStatus) (w1 w2 : Word) (s : State) : Executed :=
  { state := s, status := status, w1 := w1, w2 := w2, w3 := 0, ready := [] }

/-- A command carried out whole, which hands nothing to the Completion Queue beyond its CMD_DONE record. -/
def done (w1 w2 w3 : Word) (s : State) : Executed :=
  { state := s, status := .ok, w1 := w1, w2 := w2, w3 := w3, ready := [] }

/-- The results of STALE and CLOSED: the entry's state and current generation (R143, Table 11-9). -/
def entryWord (s : State) (g : GrantNum) : Word := place 0 (s.grant g).body.code ||| place 8 (s.grant g).gen

/-- A command's reference is resolved by R8: its refusal, or what the command does with the LIVE entry. -/
def onLive (s : State) (grant : BitVec 16) (gen : BitVec 8) (f : GrantNum → Terms → Executed) : Executed :=
  match s.resolve grant gen with
  | .badRef => refuse .badRef s
  | .stale g => refuseWith .stale (entryWord s g) 0 s
  | .closed g => refuseWith .closed (entryWord s g) 0 s
  | .live g t => f g t

/-! ### ISSUE (R19, R20, R146) -/

/-- A field of ISSUE is out of range (R19, check 1). -/
def issueBadField (f : IssueFields) : Bool :=
  !validHolder f.shared f.station ||
  f.length.toNat == 0 || decide (Config.maxLength < f.length.toNat) ||
  (!f.read && !f.write) ||
  (f.lifetimePresent && f.lifetime.toNat == 0) ||
  (decide (0 < f.credits.toNat) && f.renewAmount.toNat == 0)

/-- The record fields that ISSUE fills (R20). -/
def issueTerms (f : IssueFields) (rights : Rights) : Terms :=
  { holder := holderOf f.shared f.station
    base := f.base.toNat
    length := f.length.toNat
    rights := rights
    remaining := if f.lifetimePresent then some f.lifetime.toNat else none
    credits := f.credits.toNat
    renewAmount := if f.credits.toNat = 0 then none else some f.renewAmount.toNat
    notify := f.notify
    cookie := f.cookie }

/-- The station record that ISSUE finds for a holder: for SHARED none is needed; a station must be ADMITTED (R19,
checks 3 and 4). The answer is the refusal, if there is one. -/
def issueHolderRefusal (s : State) (h : Holder) : Option (CmdStatus × Word × Word) :=
  match h with
  | .shared => none
  | .station n =>
    match (s.findSlot n).bind (fun sl => (s.slot sl).record) with
    | none => some (.noStation, 0, 0)
    | some r =>
      if r.barred then some (.noStation, 0, 0)
      else if r.quota ≤ r.held then some (.quota, number 0 32 r.held, number 0 32 r.quota)
      else none

/-- The allocation of the free-list head `g` (R20): it becomes LIVE, joins the window index, and the holder's held count
rises. -/
def allocate (g : GrantNum) (rest : List GrantNum) (t : Terms) (s : State) : State :=
  let s1 := s.setGrant g { gen := (s.grant g).gen, inFlight := 0, body := .live t }
  changeHeld (fun n => n + 1) t.holder { s1 with freeList := rest, index := s.insertIndex t.base g s.index }

/-- ISSUE: the checks of R19 in order, and the allocation of R20. -/
def executeIssue (f : IssueFields) (s : State) : Executed :=
  match Rights.ofFlags f.read f.write with
  | none => refuse .badField s
  | some rights =>
    let t := issueTerms f rights
    if issueBadField f then refuse .badField s
    else if s.memTop < t.windowEnd then refuse .badWindow s
    else
      match issueHolderRefusal s t.holder with
      | some (status, w1, w2) => refuseWith status w1 w2 s
      | none =>
        match s.firstConflict none t with
        | some g => refuseWith .conflict (refWord g (s.grant g).gen) 0 s
        | none =>
          match s.freeList with
          | [] => refuse .tableFull s
          | g :: rest => done (refWord g (s.grant g).gen) (number 0 32 rest.length) 0 (allocate g rest t s)

/-! ### AMEND (R18, R147, R148) -/

/-- The credits after an amendment: the present ones plus those added, with the ceiling of 15 (R147). -/
def amendedCredits (f : AmendFields) (t : Terms) : Nat := min (t.credits + f.credits.toNat) Config.maxCredits

/-- The rights an AMEND sets, when its flags give any. -/
def amendedRights (f : AmendFields) : Option Rights := Rights.ofFlags f.read f.write

/-- A field of AMEND is out of range, or the record would hold credits without a renew amount (R147, check 2). -/
def amendBadField (f : AmendFields) (t : Terms) : Bool :=
  f.lifetimeAction == 3 || f.notifyAction == 3 ||
  (f.lifetimeAction == 1 && f.lifetime.toNat == 0) ||
  decide (Config.maxCredits < f.credits.toNat) ||
  (f.renewSet && f.renewAmount.toNat == 0) ||
  (f.rightsSet && (amendedRights f).isNone) ||
  (f.lengthSet && (f.length.toNat == 0 || decide (Config.maxLength < f.length.toNat))) ||
  (decide (0 < amendedCredits f t) && !f.renewSet && t.renewAmount.isNone)

/-- The record fields after the amendment (R148). -/
def amendedTerms (f : AmendFields) (t : Terms) : Terms :=
  { t with
    remaining :=
      if f.lifetimeAction = 1 then some f.lifetime.toNat else if f.lifetimeAction = 2 then none else t.remaining
    credits := amendedCredits f t
    renewAmount := if f.renewSet = true ∧ 0 < amendedCredits f t then some f.renewAmount.toNat else t.renewAmount
    rights := if f.rightsSet then (amendedRights f).getD t.rights else t.rights
    length := if f.lengthSet then f.length.toNat else t.length
    notify := if f.notifyAction = 1 then true else if f.notifyAction = 2 then false else t.notify }

/-- The amendment would shorten the window or take away a right the grant has (R147, check 3). -/
def narrows (t u : Terms) : Bool :=
  decide (u.length < t.length) || (t.rights.hasRead && !u.rights.hasRead) || (t.rights.hasWrite && !u.rights.hasWrite)

/-- The amendment widens the grant's reach: a longer window, or an added WRITE (R18). -/
def widens (t u : Terms) : Bool := decide (t.length < u.length) || (u.rights.hasWrite && !t.rights.hasWrite)

/-- The results of an AMEND carried out (R148, Table 11-9): word 2. -/
def termsWord (t : Terms) : Word :=
  number 0 17 t.length ||| place 17 t.rights.code ||| flag 19 t.notify ||| number 20 4 t.credits

/-- The remaining lifetime in [15:0] and its presence in [16] (Table 11-9). -/
def lifetimeWord (t : Terms) : Word := number 0 16 (t.remaining.getD 0) ||| flag 16 t.remaining.isSome

/-- AMEND: the checks of R147 in order, and the changes of R148. -/
def executeAmend (f : AmendFields) (s : State) : Executed :=
  onLive s f.grant f.gen (fun g t =>
    let u := amendedTerms f t
    if amendBadField f t then refuse .badField s
    else if 0 < (s.grant g).inFlight ∧ narrows t u = true then refuse .inFlight s
    else if f.lengthSet = true ∧ s.memTop < u.windowEnd then refuse .badWindow s
    else
      match (if widens t u then s.firstConflict (some g) u else none) with
      | some h => refuseWith .conflict (refWord h (s.grant h).gen) 0 s
      | none => done (refWord g (s.grant g).gen) (termsWord u) (lifetimeWord u) (s.setBody g (.live u)))

/-! ### REVOKE and SWEEP (R149, R150) -/

/-- How many of the grants `gs`, handed over in turn once the command's CMD_DONE record has been placed, are posted
directly: those found ready, as far as slots are still free (R142, R167). -/
def postedNow (s : State) (gs : List GrantNum) : Nat :=
  min (gs.countP (fun g => (s.grant g).isReady)) (Config.cqCapacity - 1 - s.cq.length)

/-- The notice frame of a station holder's new head is offered, and the transmitter may take it (R111, R134). -/
def offerForHolder (h : Holder) (s : State) : State :=
  match h with
  | .shared => s
  | .station n =>
    match s.findSlot n with
    | some sl => txTake (offerNewHead sl s)
    | none => s

/-- REVOKE (R149). -/
def executeRevoke (grant : BitVec 16) (gen : BitVec 8) (s : State) : Executed :=
  onLive s grant gen (fun g t =>
    let s1 := offerForHolder t.holder (closeGrant .revoked g s)
    { state := s1
      status := .ok
      w1 := refWord g (s.grant g).gen
      w2 := flag 0 (noticeDue .revoked t) ||| flag 1 (postedNow s1 [g] == 1) ||| number 8 4 (s.grant g).inFlight
      w3 := 0
      ready := [g] })

/-- Does the closing of this LIVE entry owe a notice (R33)? -/
def owesNotice (cause : Cause) (x : Grant) : Bool :=
  match x.body with
  | .live t => noticeDue cause t
  | .free | .closing _ _ => false

/-- SWEEP (R150). -/
def executeSweep (station : StationNum) (shared : Bool) (s : State) : Executed :=
  if validHolder shared station then
    let gs := s.liveOf (holderOf shared station)
    let s1 := offerForHolder (holderOf shared station) (closeAll .swept gs s)
    { state := s1
      status := .ok
      w1 := number 0 32 gs.length
      w2 := number 0 32 (gs.countP (fun g => owesNotice .swept (s.grant g)))
      w3 := number 0 32 (postedNow s1 gs)
      ready := gs }
  else refuse .badField s

/-! ### Queries (R151, R152) -/

/-- QUERY_GRANT part 0, words 1 to 3 (Table 11-9); absent fields read 0. -/
def grantPart0 (x : Grant) : Word × Word × Word :=
  let head := place 0 x.body.code ||| place 8 x.gen ||| number 16 4 x.inFlight
  match x.body.terms? with
  | none => (head, 0, 0)
  | some t =>
    (head ||| place 20 t.holder.stationBits ||| flag 26 t.holder.isShared ||| place 27 t.rights.code,
      number 0 32 t.base, number 0 32 t.length)

/-- The renew amount in [31:16] beside the remaining lifetime in [15:0] (Table 11-9). -/
def timesWord (t : Terms) : Word := number 0 16 (t.remaining.getD 0) ||| number 16 16 (t.renewAmount.getD 0)

/-- Tries sent in [2:0] and ticks since last send in [11:8], where present (Table 11-9). -/
def Notice.countsWord : Notice → Word
  | .awaitAck tries ticks => number 0 3 tries ||| number 8 4 ticks
  | .notDue | .queued | .acked | .unacked | .abandoned => 0

/-- QUERY_GRANT part 1, words 1 to 3 (Table 11-9); absent fields read 0. -/
def grantPart1 (x : Grant) : Word × Word × Word :=
  let head := place 0 x.body.code ||| place 8 x.gen
  let terms (t : Terms) : Word :=
    flag 16 t.remaining.isSome ||| flag 17 t.renewAmount.isSome ||| number 18 4 t.credits ||| flag 22 t.notify
  match x.body with
  | .free => (head, 0, 0)
  | .live t => (head ||| terms t, timesWord t, 0)
  | .closing t c =>
    (head ||| terms t ||| number 23 3 c.cause.code.toNat ||| number 26 3 c.notice.code.toNat ||| flag 29 c.retireWait,
      timesWord t, c.notice.countsWord)

/-- QUERY_GRANT (R23, R151). -/
def executeQueryGrant (grant : BitVec 16) (part : BitVec 2) (s : State) : Executed :=
  if h : grant.toNat < 512 then
    let x := s.grant ⟨grant.toNat, h⟩
    if part = 0 then done (grantPart0 x).1 (grantPart0 x).2.1 (grantPart0 x).2.2 s
    else if part = 1 then done (grantPart1 x).1 (grantPart1 x).2.1 (grantPart1 x).2.2 s
    else refuse .badField s
  else refuse .badRef s

/-- QUERY_LINE (R152). -/
def executeQueryLine (line : Word) (skip : BitVec 16) (s : State) : Executed :=
  if Config.lineLimit ≤ line.toNat ∨ 512 ≤ skip.toNat then refuse .badField s
  else
    let cov := s.covering line.toNat
    match cov[skip.toNat]? with
    | some g =>
      done (number 0 32 cov.length) (refWord g (s.grant g).gen) (place 0 (s.grant g).body.code ||| flag 31 true) s
    | none => done (number 0 32 cov.length) 0 0 s

end Sys2Proof.Machine
end

