-- ==== Sys2Proof/Machine/StationCommands.lean ====
section
/-! DEFINITION. The commands that act on the station table, the settings and the hold state: ADMIT, BAR, FORGET,
QUERY_STATION, SET_LIMITS, SET_TIMING, HOLD and RESUME (R153 to R160), as they are executed when taken. -/

namespace Sys2Proof.Machine

/-! ### ADMIT, BAR, FORGET (R48, R154 to R156) -/

/-- The results of ADMIT and BAR: slot, created, previous state (Table 11-9). -/
def slotWord (sl : SlotNum) (created : Bool) (previous : BitVec 2) : Word :=
  number 0 4 sl.val ||| flag 4 created ||| place 8 previous

/-- An existing record is changed by `change`, or `created` is created in the lowest VACANT slot (R45, R48). -/
def admitOrBar (n : StationNum) (change : Station → Station) (created : Station) (s : State) : Executed :=
  match s.findSlot n with
  | some sl =>
    done (slotWord sl false (((s.slot sl).record.map Station.stateCode).getD 0)) 0 0 (s.modifyRecord sl change)
  | none =>
    match s.vacantSlot with
    | some sl => done (slotWord sl true 0) 0 0 (createStation sl created s)
    | none => refuse .stationFull s

/-- ADMIT (R48, R154). -/
def executeAdmit (n : StationNum) (quota : BitVec 16) (s : State) : Executed :=
  if !stationInRange n || n == s.self || decide (Config.maxQuota < quota.toNat) then refuse .badField s
  else admitOrBar n (fun r => { r with barred := false, quota := quota.toNat }) (newStation false n quota.toNat) s

/-- BAR (R48, R155). -/
def executeBar (n : StationNum) (s : State) : Executed :=
  if !stationInRange n || n == s.self then refuse .badField s
  else admitOrBar n (fun r => { r with barred := true }) (newStation true n 0) s

/-- The pending mark as a number of three bits, 0 when none. -/
def pendingBits (p : Option CtxNum) : Nat := (p.map (fun c => c.val)).getD 0

/-- FORGET (R48, R156). -/
def executeForget (n : StationNum) (s : State) : Executed :=
  if stationInRange n then
    match s.findSlot n with
    | none => refuse .noStation s
    | some sl =>
      match (s.slot sl).record with
      | none => refuse .noStation s
      | some r =>
        if 0 < r.held ∨ r.pending.isSome = true then
          refuseWith .holdsGrants
            (number 0 4 sl.val ||| flag 12 r.pending.isSome ||| number 13 3 (pendingBits r.pending))
            (number 0 32 r.held) s
        else done (number 0 4 sl.val) 0 0 (s.setSlot sl { s.slot sl with record := none })
  else refuse .badField s

/-! ### QUERY_STATION (R63, R153) -/

/-- QUERY_STATION part 0, words 1 to 3 (Table 11-9); absent fields read 0. -/
def stationPart0 (sl : SlotNum) (r : Station) : Word × Word × Word :=
  let epoch : Nat := (r.session.map (fun e => e.epoch.toNat)).getD 0
  let last : Nat := (r.session.map (fun e => e.last.toNat)).getD 0
  let status : Nat := (r.cache.map (fun c => c.status.code.toNat)).getD 0
  let kind : Nat := (r.cache.map (fun c => c.kind.code.toNat)).getD 0
  let seq : Nat := (r.cache.map (fun c => c.seq.toNat)).getD 0
  let value : Nat := (r.cache.map (fun c => c.value.toNat)).getD 0
  (number 0 4 sl.val ||| place 4 r.stateCode ||| number 8 8 last ||| flag 16 r.session.isSome |||
      number 17 3 (pendingBits r.pending) ||| flag 20 r.pending.isSome ||| number 22 10 r.quota,
    number 0 16 epoch ||| number 16 10 r.held ||| number 26 5 status,
    number 0 3 kind ||| number 3 8 seq ||| number 11 20 value)

/-- QUERY_STATION part 1, words 1 to 3 (Table 11-9); absent fields read 0. -/
def stationPart1 (sl : SlotNum) (r : Station) : Word × Word × Word :=
  let head := number 0 4 sl.val ||| place 4 r.stateCode ||| flag 8 r.admittedWaiting
  match r.restartWaiting with
  | none => (head, 0, 0)
  | some w => (head ||| flag 9 true ||| number 16 8 w.merged, place 0 w.epoch, number 0 32 w.swept)

/-- QUERY_STATION (R63, R153). -/
def executeQueryStation (n : StationNum) (part : BitVec 2) (s : State) : Executed :=
  if !stationInRange n || (part != 0 && part != 1) then refuse .badField s
  else
    match s.findSlot n with
    | none => refuse .noStation s
    | some sl =>
      match (s.slot sl).record with
      | none => refuse .noStation s
      | some r =>
        let p := if part = 0 then stationPart0 sl r else stationPart1 sl r
        done p.1 p.2.1 p.2.2 s

/-! ### SET_LIMITS and SET_TIMING (R157, R158) -/

/-- SET_LIMITS (R157). -/
def executeSetLimits (f : LimitsFields) (s : State) : Executed :=
  let policy := if f.keepPolicy then some s.policy else Policy.ofCode f.policy.toNat
  match policy with
  | none => refuse .badField s
  | some p =>
    if !f.keepMemTop && decide (Config.lineLimit < f.memTop.toNat) then refuse .badField s
    else if !f.keepQuota && decide (Config.maxQuota < f.quota.toNat) then refuse .badField s
    else if !f.keepMemTop && decide (f.memTop.toNat < s.highestEnd) then
      refuseWith .inUse (number 0 32 s.highestEnd) 0 s
    else
      let memTop := if f.keepMemTop then s.memTop else f.memTop.toNat
      let quota := if f.keepQuota then s.defaultQuota else f.quota.toNat
      done (number 0 32 memTop) (place 0 p.code ||| number 16 10 quota) (number 0 32 s.highestEnd)
        { s with memTop := memTop, policy := p, defaultQuota := quota }

/-- SET_TIMING (R158): a tick period that differs from the one in force restarts the tick phase (R25). -/
def executeSetTiming (f : TimingFields) (s : State) : Executed :=
  let period := if f.keepPeriod then some s.tickPeriod else TickPeriod.ofCode f.period.toNat
  match period with
  | none => refuse .badField s
  | some p =>
    if !f.keepInterval && f.interval.toNat == 0 then refuse .badField s
    else if !f.keepTries && f.tries.toNat == 0 then refuse .badField s
    else
      let interval := if f.keepInterval then s.noticeInterval else f.interval.toNat
      let tries := if f.keepTries then s.noticeTries else f.tries.toNat
      done (place 0 p.code ||| number 8 4 interval ||| number 16 3 tries) 0 0
        { s with
          tickPeriod := p
          noticeInterval := interval
          noticeTries := tries
          tickPhase := if p = s.tickPeriod then s.tickPhase else 0 }

/-! ### HOLD and RESUME (R159, R160, R175, R180) -/

/-- HOLD (R159, R175). -/
def executeHold (freeze : Bool) (s : State) : Executed :=
  match s.hold with
  | .running =>
    let entered : HoldState := if s.allIdle then .held else .draining
    done (place 0 entered.code) (number 0 32 s.busyContexts) 0 { s with hold := entered, freeze := freeze }
  | .draining => refuseWith .alreadyHeld (place 0 HoldState.draining.code) 0 s
  | .held => refuseWith .alreadyHeld (place 0 HoldState.held.code) 0 s

/-- RESUME (R160, R180). -/
def executeResume (s : State) : Executed :=
  match s.hold with
  | .running => refuse .notHeld s
  | .draining => done (place 0 HoldState.draining.code) 0 0 { s with hold := .running, freeze := false }
  | .held => done (place 0 HoldState.held.code) 0 0 { s with hold := .running, freeze := false }

end Sys2Proof.Machine
end

