-- ==== Sys2Proof/Machine/Commands.lean ====
section
/-! DEFINITION. The Command Unit (R138 to R145) and the completion queue's slots (R166, R169): the taking of commands
from the FIFO, SUBMIT and CQ_ACK, and the meanings of the rows that are host commands. -/

namespace Sys2Proof.Machine

/-- A command is executed whole when it is taken (R142). -/
def execute (c : Command) (s : State) : Executed :=
  match c with
  | .issue f => executeIssue f s
  | .amend f => executeAmend f s
  | .revoke grant gen => executeRevoke grant gen s
  | .sweep station shared => executeSweep station shared s
  | .queryGrant grant part => executeQueryGrant grant part s
  | .queryLine line skip => executeQueryLine line skip s
  | .admitStation station quota => executeAdmit station quota s
  | .bar station => executeBar station s
  | .forget station => executeForget station s
  | .queryStation station part => executeQueryStation station part s
  | .setLimits f => executeSetLimits f s
  | .setTiming f => executeSetTiming f s
  | .hold freeze => executeHold freeze s
  | .resume => executeResume s
  | .bad _ => refuse .badCommand s

/-- A record that has left the FIFO is executed: its CMD_DONE record is placed, and then the grants its execution
readied are handed over (R142, R143). -/
def runRecord (r : Record) (s : State) : State :=
  let e := execute (decodeCommand r) s
  testReadyAll e.ready (placeRecord (.cmdDone (Record.code r) (Record.tag r) e.status e.w1 e.w2 e.w3) e.state)

/-- The Command Unit takes the head of the FIFO, if the conditions of R141 hold. -/
def takeCommand (s : State) : State :=
  match s.fifo with
  | [] => s
  | r :: rest => if s.slotFree then runRecord r { s with fifo := rest } else s

/-- The Command Unit takes commands while the conditions of R141 hold, at most `n` of them. -/
def takeCommands : Nat → State → State
  | 0, s => s
  | n + 1, s => takeCommands n (takeCommand s)

/-- A record is submitted (R139): it joins the tail of the FIFO, and commands are taken while R141 allows; with 16 records
waiting it is dropped and CMD_OVERRUN is latched. -/
def submitRecord (r : Record) (s : State) : State :=
  if s.fifo.length < Config.fifoCapacity then
    takeCommands (s.fifo.length + 1) { s with fifo := s.fifo ++ [r] }
  else { s with alerts := { s.alerts with cmdOverrun := true } }

/-- A write to CQ_ACK (R166): the head of the queue is removed and its slot given, to the head of the backlog or else to
the command FIFO (R169). -/
def ackRecord (s : State) : State :=
  match s.cq with
  | [] => s
  | _ :: rest =>
    let s1 := { s with cq := rest }
    if s.backlog = [] then takeCommands s.fifo.length s1 else placeBacklogHead s1

/-- A host command is submitted as its record (R139, log 3). -/
def command (tag : BitVec 16) (c : Command) (s : State) : Result := event (submitRecord (encodeCommand tag c)) s

/-! ### The meanings -/

/-- SUBMIT (R139): the staged record is submitted; the value written is ignored. -/
def execSubmit (_v : Word) (s : State) : Result := event (fun s => submitRecord s.stage s) s

/-- CQ_ACK (R166); the value written is ignored. -/
def execCqAck (_v : Word) (s : State) : Result := event ackRecord s

/-- BACKLOG_PLACE (R169). -/
def execBacklogPlace (s : State) : Result := event placeBacklogHead s

/-- ISSUE (R146). -/
def execIssue (tag : BitVec 16) (f : IssueFields) (s : State) : Result := command tag (.issue f) s

/-- AMEND (R147). -/
def execAmend (tag : BitVec 16) (f : AmendFields) (s : State) : Result := command tag (.amend f) s

/-- REVOKE (R149). -/
def execRevoke (tag grant : BitVec 16) (gen : BitVec 8) (s : State) : Result := command tag (.revoke grant gen) s

/-- SWEEP (R150). -/
def execSweep (tag : BitVec 16) (station : StationNum) (shared : Bool) (s : State) : Result :=
  command tag (.sweep station shared) s

/-- QUERY_GRANT (R151). -/
def execQueryGrant (tag grant : BitVec 16) (part : BitVec 2) (s : State) : Result := command tag (.queryGrant grant part) s

/-- QUERY_LINE (R152). -/
def execQueryLine (tag : BitVec 16) (line : Word) (skip : BitVec 16) (s : State) : Result :=
  command tag (.queryLine line skip) s

/-- ADMIT (R154). -/
def execAdmitStation (tag : BitVec 16) (station : StationNum) (quota : BitVec 16) (s : State) : Result :=
  command tag (.admitStation station quota) s

/-- BAR (R155). -/
def execBar (tag : BitVec 16) (station : StationNum) (s : State) : Result := command tag (.bar station) s

/-- FORGET (R156). -/
def execForget (tag : BitVec 16) (station : StationNum) (s : State) : Result := command tag (.forget station) s

/-- QUERY_STATION (R153). -/
def execQueryStation (tag : BitVec 16) (station : StationNum) (part : BitVec 2) (s : State) : Result :=
  command tag (.queryStation station part) s

/-- SET_LIMITS (R157). -/
def execSetLimits (tag : BitVec 16) (f : LimitsFields) (s : State) : Result := command tag (.setLimits f) s

/-- SET_TIMING (R158). -/
def execSetTiming (tag : BitVec 16) (f : TimingFields) (s : State) : Result := command tag (.setTiming f) s

/-- HOLD (R175). -/
def execHold (tag : BitVec 16) (freeze : Bool) (s : State) : Result := command tag (.hold freeze) s

/-- RESUME (R180). -/
def execResume (tag : BitVec 16) (s : State) : Result := command tag .resume s

/-- BAD_COMMAND (R140). -/
def execBadCommand (tag : BitVec 16) (code : BitVec 4) (s : State) : Result := command tag (.bad code) s

end Sys2Proof.Machine
end

