-- ==== Sys2Proof/Machine/Flags.lean ====
section
/-! DEFINITION. Alerts, interrupt enables and IRQn (R171, R172), and the register window as it is read: CONTROL, STATUS,
ALERTS, the staging words and the head words (R165, R182, Tables 11-1 to 11-3). -/

namespace Sys2Proof.Machine

/-- ALERTS with each flag whose bit is written 1 cleared (R171). -/
def Alerts.clearBy (a : Alerts) (v : Word) : Alerts :=
  { linkChange := a.linkChange && !v.getLsbD 0
    cmdOverrun := a.cmdOverrun && !v.getLsbD 1
    busFault := a.busFault && !v.getLsbD 2
    backlog := a.backlog && !v.getLsbD 3 }

/-- The enables of a word written to CONTROL (Table 11-2). -/
def Enables.ofWord (v : Word) : Enables :=
  { cq := v.getLsbD 4
    linkChange := v.getLsbD 8
    cmdOverrun := v.getLsbD 9
    busFault := v.getLsbD 10
    backlog := v.getLsbD 11 }

/-- At least one alert is latched with its own enable set (R172). -/
def alertTerm (a : Alerts) (e : Enables) : Bool :=
  (a.linkChange && e.linkChange) || (a.cmdOverrun && e.cmdOverrun) || (a.busFault && e.busFault) ||
    (a.backlog && e.backlog)

/-- IRQn is asserted, driven low (R172). -/
def irqAsserted (s : State) : Bool := (!s.cq.isEmpty && s.enables.cq) || alertTerm s.alerts s.enables

/-- SELF is valid: 1 to 62 (R130). -/
def State.selfValid (s : State) : Bool := s.self != 0 && s.self != 63

/-- CONTROL as it is read (Table 11-2); ENGINE_RESET reads 0. -/
def controlWord (s : State) : Word :=
  flag 0 s.linkEnable ||| flag 4 s.enables.cq ||| flag 8 s.enables.linkChange ||| flag 9 s.enables.cmdOverrun |||
    flag 10 s.enables.busFault ||| flag 11 s.enables.backlog

/-- STATUS (Table 11-3). -/
def statusWord (s : State) : Word :=
  place 0 s.link.code ||| flag 2 (!s.selfValid) ||| flag 3 (!s.backlog.isEmpty) ||| place 4 s.hold.code |||
    place 8 s.self ||| number 16 5 s.fifo.length ||| number 24 7 s.cq.length

/-- ALERTS (Table 11-1). -/
def alertsWord (s : State) : Word :=
  flag 0 s.alerts.linkChange ||| flag 1 s.alerts.cmdOverrun ||| flag 2 s.alerts.busFault ||| flag 3 s.alerts.backlog

/-- The word at a word's offset in the window, as a full-width read returns it (R182, Table 11-1): SUBMIT, CQ_ACK and the
unassigned offsets read 0. -/
def windowWord (s : State) (offset : BitVec 8) : Word :=
  match offset.toNat with
  | 0x00 => Config.idWord
  | 0x04 => controlWord s
  | 0x08 => statusWord s
  | 0x0C => alertsWord s
  | 0x10 => s.stage[0]
  | 0x14 => s.stage[1]
  | 0x18 => s.stage[2]
  | 0x1C => s.stage[3]
  | 0x30 => (headWords s.cq)[0]
  | 0x34 => (headWords s.cq)[1]
  | 0x38 => (headWords s.cq)[2]
  | 0x3C => (headWords s.cq)[3]
  | _ => 0

/-- The bits of the byte lanes of a word that an access addresses. -/
def laneMask (lanes : BitVec 4) : Word :=
  (List.range 4).foldl (fun m i => if lanes.getLsbD i then m ||| place (8 * i) (0xFF : BitVec 8) else m) 0

/-- The offset of the word in which a byte offset falls: the window is decoded in whole words (R182). -/
def wordOffset (offset : BitVec 8) : BitVec 8 := offset &&& 0xFC#8

/-- A read of the window at a byte offset with the byte lanes `lanes`: the addressed bytes of the word in which the offset
falls, and 0 while the part is held in reset (R182, R185). A read changes nothing, so it is a function of the state
(log 16). -/
def readWindow (s : State) (offset : BitVec 8) (lanes : BitVec 4) : Word :=
  if s.resetnLow || s.supplyOut then 0 else windowWord s (wordOffset offset) &&& laneMask lanes

end Sys2Proof.Machine
end

