-- ==== Sys2Proof/Machine/Control.lean ====
section
/-! DEFINITION. The resets (R184, R185), CONTROL (R125, R172, R183), ALERTS and the staging words (R138, R171), the
ignored writes of the register window (R182), and the link's sync events (R126): the meanings of their rows. -/

namespace Sys2Proof.Machine

/-! ### Engine reset (R184) -/

/-- A grant entry in an engine reset (R24). -/
def Grant.engineReset (x : Grant) : Grant :=
  match x.body with
  | .free => x
  | .live _ | .closing _ _ => { gen := x.gen + 1, inFlight := 0, body := .free }

/-- A station record in an engine reset (R64). -/
def Station.engineReset (r : Station) : Station :=
  { r with held := 0, session := none, pending := none, cache := none, admittedWaiting := false, restartWaiting := none }

/-- A slot in an engine reset: its record as R64, its notice queue empty (R123). -/
def Slot.engineReset (x : Slot) : Slot := { record := x.record.map Station.engineReset, queue := [], frame := .none }

/-- A context in an engine reset (R107): the buffer and the fields without meaning in IDLE keep their content. -/
def Ctx.engineReset (x : Ctx) : Ctx :=
  { x with state := .idle, orphaned := false, replayed := false, issued := 0, done := 0 }

/-- An outstanding line operation is detached (R107). -/
def Port.detach : Port → Port
  | .free => .free
  | .busy _ op => .busy none op

/-- The free list rebuilt: first the entries that were FREE, in their order, then the entries the reset frees, in
ascending grant number (R12). -/
def rebuiltFreeList (s : State) : List GrantNum :=
  s.freeList ++ (List.finRange 512).filter (fun g => !(s.grant g).body.isFree)

/-- The engine reset: each block sets its own state (R184). -/
def engineReset (s : State) : State :=
  { s with
    grants := s.grants.map Grant.engineReset
    freeList := rebuiltFreeList s
    index := []
    tickPhase := 0
    slots := s.slots.map Slot.engineReset
    immCount := 0
    ctxs := s.ctxs.map Ctx.engineReset
    port := s.port.detach
    lastServed := 7
    offers := []
    replyQ := []
    tx := .free
    stage := Vector.replicate 4 0
    fifo := []
    cq := []
    backlog := []
    alerts := Alerts.clear
    hold := .running
    freeze := false }

/-! ### Power-on reset (R185) -/

/-- The levels of RESETn and of the supply detector become the ones given. Every block takes its power-on values; when
neither holds the part in reset, the reset ends and the straps are sampled into SELF (R130, R185). What the part has
written in node memory stays (log 12), and so do the waiting commands (log 1). -/
def powerOn (resetnLow supplyOut : Bool) (straps : BitVec 6) (s : State) : State :=
  { State.reset with
    resetnLow := resetnLow
    supplyOut := supplyOut
    self := if resetnLow || supplyOut then s.self else straps
    nodeMem := s.nodeMem
    pending := s.pending }

/-! ### CONTROL (R125, R172, R183) -/

/-- The LINK_ENABLE field of a CONTROL write (R125). -/
def linkEnableWrite (b : Bool) (s : State) : State :=
  if b then
    if s.selfValid = true ∧ s.linkEnable = false then
      let s1 := { s with linkEnable := true }
      if s.link = .down then { s1 with link := .training, trainingTime := 0 } else s1
    else s
  else
    let s1 := { s with linkEnable := false }
    match s.link with
    | .down => s1
    | .training => { s1 with link := .down }
    | .up => linkLeavesUp .down s1

/-- A write to CONTROL: the enables and LINK_ENABLE take the values written, and then a 1 in ENGINE_RESET triggers the
engine reset on the state they leave (R183). -/
def controlWrite (v : Word) (s : State) : State :=
  let s1 := linkEnableWrite (v.getLsbD 0) { s with enables := Enables.ofWord v }
  if v.getLsbD 1 then engineReset s1 else s1

/-- The word `v` with bit `i` set as `b` says: a row that is a CONTROL write with one of its fields fixed. -/
def withBit (v : Word) (i : Nat) (b : Bool) : Word := (v &&& ~~~(flag i true)) ||| flag i b

/-! ### The register window as it is written (R182) -/

/-- A write to ALERTS (R171). -/
def alertsWrite (v : Word) (s : State) : State := { s with alerts := s.alerts.clearBy v }

/-- A write to a staging word (R138). -/
def stageWrite (i : Fin 4) (v : Word) (s : State) : State := { s with stage := s.stage.set i.val v i.isLt }

/-- A write of `v` at a byte offset with the byte lanes `lanes` (R182): a full-width write acts on the word that the
offset names; a write to a read-only word, to an unassigned offset or outside the window, and a write narrower than 32
bits, is ignored. A full-width write at no multiple of four is none of a whole word and is ignored too (log 22). -/
def windowWrite (offset : BitVec 8) (lanes : BitVec 4) (v : Word) (s : State) : State :=
  if lanes = 0xF then
    match offset.toNat with
    | 0x04 => controlWrite v s
    | 0x0C => alertsWrite v s
    | 0x10 => stageWrite 0 v s
    | 0x14 => stageWrite 1 v s
    | 0x18 => stageWrite 2 v s
    | 0x1C => stageWrite 3 v s
    | 0x20 => submitRecord s.stage s
    | 0x40 => ackRecord s
    | _ => s
  else s

/-! ### The link's sync events (R126) -/

/-- The receiver loses lock or sees the partner's sync pattern (R126): in UP the link goes to TRAINING, in TRAINING the
training time restarts; in DOWN the receiver ignores the line (R124). -/
def syncLost (s : State) : State :=
  match s.link with
  | .down => s
  | .training => { s with trainingTime := 0 }
  | .up => { linkLeavesUp .training s with trainingTime := 0 }

/-- The training time reaches the training period (R126, R128). -/
def trainingComplete (s : State) : State := if s.link = .training then linkEntersUp s else s

/-! ### The meanings -/

/-- POWER_ON_RESET (R185). -/
def execPowerOnReset (resetnLow supplyOut : Bool) (straps : BitVec 6) (s : State) : Result :=
  .next (powerOn resetnLow supplyOut straps s)

/-- ENGINE_RESET (R184): a CONTROL write with ENGINE_RESET 1. -/
def execEngineReset (v : Word) (s : State) : Result := event (controlWrite (withBit v 1 true)) s

/-- LINK_ENABLE (R125): a CONTROL write with LINK_ENABLE 1. -/
def execLinkEnable (v : Word) (s : State) : Result := event (controlWrite (withBit v 0 true)) s

/-- LINK_DISABLE (R125): a CONTROL write with LINK_ENABLE 0. -/
def execLinkDisable (v : Word) (s : State) : Result := event (controlWrite (withBit v 0 false)) s

/-- INTERRUPT_ENABLE_WRITE (R172): a CONTROL write with ENGINE_RESET 0. -/
def execInterruptEnableWrite (v : Word) (s : State) : Result := event (controlWrite (withBit v 1 false)) s

/-- ALERTS_CLEAR (R171). -/
def execAlertsClear (v : Word) (s : State) : Result := event (alertsWrite v) s

/-- STAGE_WRITE (R138). -/
def execStageWrite (i : Fin 4) (v : Word) (s : State) : Result := event (stageWrite i v) s

/-- IGNORED_WRITE (R182): a write that the window's decode ignores. -/
def execIgnoredWrite (offset : BitVec 8) (lanes : BitVec 4) (v : Word) (s : State) : Result :=
  event (windowWrite offset lanes v) s

/-- SYNC_LOST (R126). -/
def execSyncLost (s : State) : Result := event syncLost s

/-- TRAINING_COMPLETE (R126). -/
def execTrainingComplete (s : State) : Result := event trainingComplete s

end Sys2Proof.Machine
end

