-- ==== Sys2Proof/Machine/Lifetimes.lean ====
section
/-! DEFINITION. The Lifetime Timer and the notices' clock: TICK, GRANT_EXPIRY, NOTICE_INTERVAL_EXPIRY, NOTICE_OFFER, and
the hand-over of a ready grant (R25 to R29, R35, R111, R114, R115). -/

namespace Sys2Proof.Machine

/-- A tick lowers the remaining lifetime of a LIVE record that has one (R28). -/
def Grant.countDown (x : Grant) : Grant :=
  match x.body with
  | .live t => { x with body := .live { t with remaining := t.remaining.map (fun n => n - 1) } }
  | .free | .closing _ _ => x

/-- Every timed LIVE grant has its remaining lifetime lowered by one (R28). -/
def countDownAll (s : State) : State := { s with grants := s.grants.map Grant.countDown }

/-- The record is LIVE with a remaining lifetime of 0. -/
def Grant.hasRunOut (x : Grant) : Bool :=
  match x.body with
  | .live t => t.remaining == some 0
  | .free | .closing _ _ => false

/-- The LIVE grants whose remaining lifetime is 0, in ascending grant number (R29). -/
def State.runOut (s : State) : List GrantNum := (List.finRange 512).filter (fun g => (s.grant g).hasRunOut)

/-- The grants whose remaining lifetime is 0 expire: each is closed with cause EXPIRED, and those at once ready are
handed over, both in ascending grant number (R29). -/
def expireAll (s : State) : State := testReadyAll s.runOut (closeAll .expired s.runOut s)

/-- The first user of a tick: countdown and expiry, unless the freeze state is on (R26, R27). -/
def tickLifetimes (s : State) : State := if s.freeze then s else expireAll (countDownAll s)

/-- The second user of a tick: the intervals of the notice heads are counted, and heads out of tries end UNACKED in
ascending slot number (R114, R115). -/
def tickNotices (s : State) : State := forSlots endUnacked (forSlots countInterval s)

/-- The frames that a tick offers, from a new head or from a resend, join the offer list in ascending slot number
(R111). -/
def offerDue (sl : SlotNum) (s : State) : State := resendHead sl (offerNewHead sl s)

/-- A tick event (R25, R26): the phase starts again, lifetimes and intervals are counted, frames due are offered, and the
transmitter may take one. -/
def tickEvent (s : State) : State :=
  txTake (forSlots offerDue (tickNotices (tickLifetimes { s with tickPhase := 0 })))

/-- TICK (R26). -/
def execTick (s : State) : Result := event tickEvent s

/-- GRANT_EXPIRY (R29): the LIVE grants with remaining lifetime 0 expire, and the frames of new heads are offered. -/
def execGrantExpiry (s : State) : Result := event (fun s => txTake (forSlots offerNewHead (expireAll s))) s

/-- The length of a tick period in µs (Table 2-1). -/
def TickPeriod.micros : TickPeriod → Nat
  | .us100 => 100
  | .ms1 => 1000
  | .ms10 => 10000
  | .ms100 => 100000

/-- A tick event is due or under way: the tick phase stands at the tick period, from which the tick starts it again
(R25). -/
def State.atTick (s : State) : Bool := decide (s.tickPhase = s.tickPeriod.micros)

/-- NOTICE_INTERVAL_EXPIRY (R115) of a slot's head: a resend is offered, or the notice ends UNACKED and the next head's
frame is offered. An interval expires at a counted tick only (R114, R119, R121), so between ticks a head whose ticks
already reach the interval, lowered or held from before the link left UP, stays as it is (log 4). -/
def execNoticeIntervalExpiry (sl : SlotNum) (s : State) : Result :=
  event (fun s => if s.atTick && s.intervalExpired sl then txTake (offerDue sl (endUnacked sl s)) else s) s

/-- NOTICE_OFFER (R111) of a slot's new head. -/
def execNoticeOffer (sl : SlotNum) (s : State) : Result := event (fun s => txTake (offerNewHead sl s)) s

/-- GRANT_READY (R35) of a grant. -/
def execGrantReady (g : GrantNum) (s : State) : Result := event (testReady g) s

/-- DRAIN_END (R176). -/
def execDrainEnd (s : State) : Result := event drainTest s

end Sys2Proof.Machine
end

