-- ==== Sys2Proof/Machine/Transfer.lean ====
section
/-! DEFINITION. The transmitter's starts and completions (R134, R135) and the node bus's results (R94 to R97, R107): the
meanings of their rows. -/

namespace Sys2Proof.Machine

/-- The transmission of a reply completes, the head of the reply queue being an immediate one: the reply leaves the
queue and the immediate-reply count falls (R84, R135). -/
def immediateSent (s : State) : State :=
  match s.tx, s.replyQ with
  | .reply, { origin := .immediate, frame := _ } :: rest =>
    txTake { s with tx := .free, replyQ := rest, immCount := s.immCount - 1 }
  | _, _ => s

/-- The transmission of a reply completes, the head of the reply queue being a context reply: the reply leaves the
queue, the context enters IDLE, and the pending mark that names it is cleared (R103, R135). -/
def contextSent (s : State) : State :=
  match s.tx, s.replyQ with
  | .reply, { origin := .context c, frame := _ } :: rest =>
    txTake (drainTest (clearPending c (s.ctx c).slot ({ s with tx := .free, replyQ := rest }.enter c .idle)))
  | _, _ => s

/-- A completed send raises the head's tries and restarts its interval (R113, steps 1 and 2). -/
def Notice.afterSend : Notice → Notice
  | .queued => .awaitAck 1 0
  | .awaitAck tries _ => .awaitAck (tries + 1) 0
  | n => n

/-- The transmission of the NOTICE frame of a slot's head completes (R113, R135). -/
def headNoticeSent (s : State) : State :=
  match s.tx with
  | .notice (some sl) _ =>
    let s1 := match (s.slot sl).queue, s.headNotice sl with
      | g :: _, some n => setNotice g n.afterSend s
      | _, _ => s
    txTake { s1.setSlot sl { s1.slot sl with frame := .none } with tx := .free }
  | _ => s

/-- The transmission of a detached NOTICE frame completes and changes no record (R135). -/
def detachedSent (s : State) : State :=
  match s.tx with
  | .notice none _ => txTake { s with tx := .free }
  | _ => s

/-- A detached line operation ends (R107). -/
def detachedEnd (res : LineResult) (s : State) : State :=
  match s.port with
  | .busy none _ => lineEnd res s
  | _ => s

/-! ### The meanings -/

/-- TRANSMIT_START (R134). -/
def execTransmitStart (s : State) : Result := event txTake s

/-- IMMEDIATE_REPLY_SENT (R84). -/
def execImmediateReplySent (s : State) : Result := event immediateSent s

/-- CONTEXT_REPLY_SENT (R103). -/
def execContextReplySent (s : State) : Result := event contextSent s

/-- NOTICE_SENT (R113). -/
def execNoticeSent (s : State) : Result := event headNoticeSent s

/-- DETACHED_NOTICE_SENT (R135). -/
def execDetachedNoticeSent (s : State) : Result := event detachedSent s

/-- LINE_OPERATION_START (R94, R95). -/
def execLineOperationStart (s : State) : Result := event givePort s

/-- LINE_DONE (R96). -/
def execLineDone (data : Line) (s : State) : Result := event (lineEnd (.done data)) s

/-- LINE_BUS_FAULT (R97). -/
def execLineBusFault (s : State) : Result := event (lineEnd .fault) s

/-- DETACHED_LINE_END (R107). -/
def execDetachedLineEnd (result : LineResult) (s : State) : Result := event (detachedEnd result) s

end Sys2Proof.Machine
end

