-- ==== Sys2Proof/Machine/Dispatch.lean ====
section
/-! DEFINITION. The meaning of each command: one arm per row of spec/opcode_table.json. -/

namespace Sys2Proof.Machine

def exec (i : Instr) (s : State) : Host.Outcome State Fault Refusal :=
  match i with
  | .powerOnReset resetnLow supplyOut straps => Sys2Proof.Machine.execPowerOnReset resetnLow supplyOut straps s
  | .engineReset v => Sys2Proof.Machine.execEngineReset v s
  | .linkEnable v => Sys2Proof.Machine.execLinkEnable v s
  | .linkDisable v => Sys2Proof.Machine.execLinkDisable v s
  | .interruptEnableWrite v => Sys2Proof.Machine.execInterruptEnableWrite v s
  | .alertsClear v => Sys2Proof.Machine.execAlertsClear v s
  | .stageWrite k v => Sys2Proof.Machine.execStageWrite k v s
  | .submit v => Sys2Proof.Machine.execSubmit v s
  | .cqAck v => Sys2Proof.Machine.execCqAck v s
  | .ignoredWrite offset lanes v => Sys2Proof.Machine.execIgnoredWrite offset lanes v s
  | .backlogPlace => Sys2Proof.Machine.execBacklogPlace s
  | .issue tag f => Sys2Proof.Machine.execIssue tag f s
  | .amend tag f => Sys2Proof.Machine.execAmend tag f s
  | .revoke tag grant gen => Sys2Proof.Machine.execRevoke tag grant gen s
  | .sweep tag station shared => Sys2Proof.Machine.execSweep tag station shared s
  | .queryGrant tag grant part => Sys2Proof.Machine.execQueryGrant tag grant part s
  | .queryLine tag line skip => Sys2Proof.Machine.execQueryLine tag line skip s
  | .admitStation tag station quota => Sys2Proof.Machine.execAdmitStation tag station quota s
  | .bar tag station => Sys2Proof.Machine.execBar tag station s
  | .forget tag station => Sys2Proof.Machine.execForget tag station s
  | .queryStation tag station part => Sys2Proof.Machine.execQueryStation tag station part s
  | .setLimits tag f => Sys2Proof.Machine.execSetLimits tag f s
  | .setTiming tag f => Sys2Proof.Machine.execSetTiming tag f s
  | .hold tag freeze => Sys2Proof.Machine.execHold tag freeze s
  | .resume tag => Sys2Proof.Machine.execResume tag s
  | .badCommand tag code => Sys2Proof.Machine.execBadCommand tag code s
  | .syncLost => Sys2Proof.Machine.execSyncLost s
  | .trainingComplete => Sys2Proof.Machine.execTrainingComplete s
  | .filteredFrame bytes => Sys2Proof.Machine.execFilteredFrame bytes s
  | .unknownKindFrame src seq kind => Sys2Proof.Machine.execUnknownKindFrame src seq kind s
  | .hello src seq epoch start => Sys2Proof.Machine.execHello src seq epoch start s
  | .read src seq grant gen offset count => Sys2Proof.Machine.execRead src seq grant gen offset count s
  | .write src seq grant gen offset count payload => Sys2Proof.Machine.execWrite src seq grant gen offset count payload s
  | .renew src seq grant gen => Sys2Proof.Machine.execRenew src seq grant gen s
  | .returnGrant src seq grant gen => Sys2Proof.Machine.execReturnGrant src seq grant gen s
  | .probe src seq grant gen => Sys2Proof.Machine.execProbe src seq grant gen s
  | .noticeAck src seq grant gen => Sys2Proof.Machine.execNoticeAck src seq grant gen s
  | .tick => Sys2Proof.Machine.execTick s
  | .grantExpiry => Sys2Proof.Machine.execGrantExpiry s
  | .noticeIntervalExpiry slot => Sys2Proof.Machine.execNoticeIntervalExpiry slot s
  | .noticeOffer slot => Sys2Proof.Machine.execNoticeOffer slot s
  | .transmitStart => Sys2Proof.Machine.execTransmitStart s
  | .immediateReplySent => Sys2Proof.Machine.execImmediateReplySent s
  | .contextReplySent => Sys2Proof.Machine.execContextReplySent s
  | .noticeSent => Sys2Proof.Machine.execNoticeSent s
  | .detachedNoticeSent => Sys2Proof.Machine.execDetachedNoticeSent s
  | .lineOperationStart => Sys2Proof.Machine.execLineOperationStart s
  | .lineDone data => Sys2Proof.Machine.execLineDone data s
  | .lineBusFault => Sys2Proof.Machine.execLineBusFault s
  | .detachedLineEnd result => Sys2Proof.Machine.execDetachedLineEnd result s
  | .grantReady g => Sys2Proof.Machine.execGrantReady g s
  | .drainEnd => Sys2Proof.Machine.execDrainEnd s

end Sys2Proof.Machine
end

