-- ==== Sys2Proof/Safety.lean ====
section
/-! DEFINITION. What counts as a safe step, the conditions under which a command is taken or a frame arrives, the
invariants of the part, and the short descriptions of an effect that several statements share. The part has no fault: a
step is safe when it answers a next state. -/

namespace Sys2Proof.Machine

/-! ### Conditions -/

/-- A step from `s` answers a next state. -/
def SafeStep (s : State) : Prop := ∃ t, step s = .next t

/-- The Command Unit can take and execute a submitted command at once: the part is not held in reset, no command waits,
the backlog is empty and the completion queue has a free slot (R141). -/
def State.CanTake (s : State) : Prop :=
  s.inReset = false ∧ s.fifo = [] ∧ s.backlog = [] ∧ s.cq.length < Config.cqCapacity

/-- A frame from `src` can arrive: the part is not held in reset, the link is UP and the source is one the receive filter
accepts (R131, R132). -/
def State.CanReceive (s : State) (src : StationNum) : Prop :=
  s.inReset = false ∧ s.link = .up ∧ sourceAccepted s.self src = true

/-- `src` is ADMITTED in slot `sl` with record `x` and session `e`, and the hold state is RUNNING: its requests reach the
sequence rule (R71, R72). -/
def State.Serves (s : State) (src : StationNum) (sl : SlotNum) (x : Station) (e : Session) : Prop :=
  s.CanReceive src ∧ s.findSlot src = some sl ∧ (s.slot sl).record = some x ∧ x.barred = false ∧ x.session = some e ∧
    s.hold = .running

/-! ### Invariants -/

/-- The free list holds each FREE entry exactly once and the window index each LIVE and CLOSING entry exactly once (R10,
R13, R15). -/
def State.GrantListsPartition (s : State) : Prop :=
  s.freeList.Nodup ∧ s.index.Nodup ∧
    ∀ g : GrantNum, (g ∈ s.freeList ↔ (s.grant g).body.isFree = true) ∧
      (g ∈ s.index ↔ (s.grant g).body.isFree = false)

/-- The window index is sorted by base, and among equal bases by grant number (R13). -/
def State.IndexSorted (s : State) : Prop :=
  s.index.Pairwise (fun g h => ∀ t u : Terms, (s.grant g).body.terms? = some t → (s.grant h).body.terms? = some u →
    t.base < u.base ∨ (t.base = u.base ∧ g < h))

/-- Two windows conflict: they share a line, their holders differ, SHARED differing from every holder, and at least one of
them carries WRITE (R16). -/
def windowsConflict (t u : Terms) : Bool :=
  decide ((t.base < u.base + u.length ∧ u.base < t.base + t.length) ∧
    (t.holder = .shared ∨ u.holder = .shared ∨ t.holder ≠ u.holder) ∧ (t.rights ≠ .read ∨ u.rights ≠ .read))

/-- No two LIVE or CLOSING grants conflict (R16). -/
def State.WindowsCompatible (s : State) : Prop :=
  ∀ g h : GrantNum, g ≠ h → ∀ t u : Terms, (s.grant g).body.terms? = some t → (s.grant h).body.terms? = some u →
    windowsConflict t u = false

/-- Every window of a LIVE or CLOSING grant ends at or below MEM_TOP (R2). -/
def State.WindowsBelowMemTop (s : State) : Prop :=
  ∀ (g : GrantNum) (t : Terms), (s.grant g).body.terms? = some t → t.base + t.length ≤ s.memTop

/-- The terms of every LIVE and CLOSING grant are in range: the length, the credits, a renew amount wherever there are
credits, and, in a LIVE grant, a remaining lifetime of 1 to 65,535 where one is present (R3, R19). -/
def State.TermsInRange (s : State) : Prop :=
  (∀ (g : GrantNum) (t : Terms), (s.grant g).body.terms? = some t →
    1 ≤ t.length ∧ t.length ≤ 65536 ∧ t.credits ≤ 15 ∧ (0 < t.credits → t.renewAmount.isSome = true)) ∧
  ∀ (g : GrantNum) (t : Terms) (n : Nat), (s.grant g).body = .live t → t.remaining = some n → 1 ≤ n ∧ n ≤ 65535

/-- The source of a backlog entry is as it must be for the entry to be placed: a CLOSING grant whose retire wait is yes and
whose notice state is finished, a station record, a waiting restarted event; HOLD_REACHED waits in HELD only (R35, R55, R168,
R177). -/
def State.EventSound (s : State) : Event → Prop
  | .grant g => ∃ t c, (s.grant g).body = .closing t c ∧ c.retireWait = true ∧ c.notice.finished = true
  | .admitted sl => ∃ r, (s.slot sl).record = some r
  | .restarted sl => ∃ r w, (s.slot sl).record = some r ∧ r.restartWaiting = some w
  | .holdReached => s.hold = .held

/-- The completion queue holds at most 64 records and the command FIFO at most 16; a backlog that is not empty stands
behind a full queue, holds no source twice, and every one of its sources is as it must be (R139, R164, R168). -/
def State.QueuesSound (s : State) : Prop :=
  s.cq.length ≤ Config.cqCapacity ∧ s.fifo.length ≤ Config.fifoCapacity ∧
    (s.backlog ≠ [] → s.cq.length = Config.cqCapacity) ∧ s.backlog.Nodup ∧ ∀ e ∈ s.backlog, s.EventSound e

/-- While the link is not UP nothing is queued, received or sent on it: the reply queue and the offer list are empty, the
transmitter is free, no head frame is under way and no context waits in REPLY_WAIT (R104, R118, R127). -/
def State.QuietLink (s : State) : Prop :=
  s.link ≠ .up →
    s.replyQ = [] ∧ s.immCount = 0 ∧ s.offers = [] ∧ s.tx = .free ∧ s.receiving = false ∧
      (∀ sl : SlotNum, (s.slot sl).frame = .none) ∧ (∀ c : CtxNum, (s.ctx c).state ≠ .replyWait)

/-- LINK_ENABLE is 0 exactly while the link is DOWN, and it is 0 while SELF is not valid (R124, R125). -/
def State.LinkFollowsEnable (s : State) : Prop :=
  (s.linkEnable = false ↔ s.link = .down) ∧ (s.selfValid = false → s.linkEnable = false)

/-- The immediate-reply count is the number of immediate replies in the reply queue, at most 4, and a transmitter that
sends a reply has one to send (R65, R84, R133). -/
def State.RepliesCounted (s : State) : Prop :=
  s.immCount = s.replyQ.countP (fun r => r.origin == .immediate) ∧ s.immCount ≤ Config.immediateLimit ∧
    (s.tx = .reply → s.replyQ ≠ [])

/-- The offer list holds each slot whose head frame state is OFFERED exactly once, and a head frame state is SENDING
exactly while the transmitter sends that slot's frame (R109, R113). -/
def State.OffersSound (s : State) : Prop :=
  s.offers.Nodup ∧ ∀ sl : SlotNum, (sl ∈ s.offers ↔ ∃ f, (s.slot sl).frame = .offered f) ∧
    ((s.slot sl).frame = .sending ↔ ∃ f, s.tx = .notice (some sl) f)

/-- While the link is UP a free transmitter has nothing to send: no reply is queued and no notice frame is offered (R134). -/
def State.TransmitterEager (s : State) : Prop :=
  s.link = .up → s.tx = .free → s.replyQ = [] ∧ s.offers = []

/-- A free port has nothing to do: no context has a line left (R95). -/
def State.PortEager (s : State) : Prop := s.port = .free → ∀ c : CtxNum, (s.ctx c).lineLeft = false

/-- The freeze state is on only in DRAINING or HELD (R174); in HELD every context is IDLE, and in DRAINING some context is
not (Table 10-1, R176). -/
def State.HoldConsistent (s : State) : Prop :=
  (s.freeze = true → s.hold ≠ .running) ∧ (s.hold = .held → s.allIdle = true) ∧
    (s.hold = .draining → s.allIdle = false)

/-- The in-flight count of each grant is the number of contexts whose memory phase is under way on it; it is 0 in a FREE
entry and in one whose retire wait is yes (R4, R35, R36). -/
def State.InFlightCounted (s : State) : Prop :=
  ∀ g : GrantNum,
    (s.grant g).inFlight = (List.finRange 8).countP (fun c => (s.ctx c).inMemoryPhase && (s.ctx c).grant == g) ∧
    ((s.grant g).body = .free → (s.grant g).inFlight = 0) ∧
    ∀ t c, (s.grant g).body = .closing t c → c.retireWait = true → (s.grant g).inFlight = 0

/-- No two station records name the same station (R45). -/
def State.StationsDistinct (s : State) : Prop :=
  ∀ (sl tl : SlotNum) (x y : Station), (s.slot sl).record = some x → (s.slot tl).record = some y →
    x.number = y.number → sl = tl

/-- The held count of each station record is the number of LIVE and CLOSING grants whose holder is that station, and no
such grant names a station without a record (R21). -/
def State.HeldCounted (s : State) : Prop :=
  ∀ n : StationNum, (List.finRange 512).countP (fun g => (s.grant g).body.holder? == some (.station n)) =
    (((s.findSlot n).bind (fun sl => (s.slot sl).record)).map (fun r => r.held)).getD 0

/-- The notice queue of each slot holds exactly the CLOSING grants of its station whose notice state is QUEUED or
AWAIT_ACK, each once, and every grant behind the head is QUEUED; the queue of a VACANT slot is empty, and a slot whose
queue is empty has no head frame (R109). -/
def State.NoticeQueuesSound (s : State) : Prop :=
  ∀ sl : SlotNum,
    (s.slot sl).queue.Nodup ∧ ((s.slot sl).queue = [] → (s.slot sl).frame = .none) ∧
    (∀ g : GrantNum, g ∈ (s.slot sl).queue ↔
      ∃ r t c, (s.slot sl).record = some r ∧ (s.grant g).body = .closing t c ∧ t.holder = .station r.number ∧
        c.notice.isOpen = true) ∧
    ∀ g ∈ (s.slot sl).queue.tail, ∀ t c, (s.grant g).body = .closing t c → c.notice = .queued

/-- The settings are in the ranges that SET_LIMITS and SET_TIMING give them (R157, R158), the training time is at most
200 µs, and the record of node memory is in its canonical form (log 12). -/
def State.SettingsInRange (s : State) : Prop :=
  s.memTop ≤ Config.lineLimit ∧ s.defaultQuota ≤ Config.maxQuota ∧ 1 ≤ s.noticeInterval ∧ s.noticeInterval ≤ 15 ∧
    1 ≤ s.noticeTries ∧ s.noticeTries ≤ 7 ∧ s.trainingTime ≤ Config.trainingPeriod ∧
    s.tickPhase < s.tickPeriod.micros ∧ nodeMemWf s.nodeMem = true

/-! ### Descriptions that statements share

Each gives in one piece, for a whole set of grants or slots at once, what a rule says happens to each of them. -/

/-- The record of the station numbered `n`, if one names it (R46). -/
def State.stationRecord (s : State) (n : StationNum) : Option Station :=
  (s.findSlot n).bind (fun sl => (s.slot sl).record)

/-- The station slot whose record names a grant's holder; none for SHARED (R46). -/
def State.holderSlot (s : State) (g : GrantNum) : Option SlotNum :=
  match (s.grant g).body.holder? with
  | some (.station n) => s.findSlot n
  | some .shared | none => none

/-- The CMD_DONE record of a command placed behind the records of the queue (R142, R143). -/
def State.report (s : State) (code : BitVec 4) (tag : BitVec 16) (status : CmdStatus) (w1 w2 w3 : Word) : State :=
  { s with cq := s.cq ++ [.cmdDone code tag status w1 w2 w3] }

/-- How many of `n` events handed over one after another are placed at once: none behind a backlog, else as many as
slots are free (R167). -/
def State.room (s : State) (n : Nat) : Nat := if s.backlog = [] then min n (64 - s.cq.length) else 0

/-- The closing of this LIVE record with `cause` owes a notice (R33). -/
def Grant.owes (x : Grant) (cause : Cause) : Bool :=
  match x.body with
  | .live t =>
    decide ((cause = .revoked ∨ cause = .swept ∨ cause = .expired) ∧ t.notify = true ∧ t.holder ≠ .shared)
  | .free | .closing _ _ => false

/-- A LIVE record after the closing act (R32). -/
def Grant.closed (x : Grant) (cause : Cause) : Grant :=
  match x.body with
  | .live t =>
    { x with
      body := .closing t
        { cause := cause, notice := if x.owes cause then .queued else .notDue, retireWait := false } }
  | .free | .closing _ _ => x

/-- The LIVE grants `gs`, taken in that order, closed with `cause`: those that owe a notice have joined the tails of their
holders' queues (R32, R110). -/
def State.withClosed (s : State) (cause : Cause) (gs : List GrantNum) : State :=
  { s with
    grants := Vector.ofFn (fun g : GrantNum => if g ∈ gs then (s.grant g).closed cause else s.grant g)
    slots := Vector.ofFn (fun sl : SlotNum =>
      { s.slot sl with
        queue := (s.slot sl).queue ++ gs.filter (fun g => (s.grant g).owes cause && s.holderSlot g == some sl) }) }

/-- A CLOSING record that waits in the backlog: its retire wait is yes (R35). -/
def Grant.waiting (x : Grant) : Grant :=
  match x.body with
  | .closing t c => { x with body := .closing t { c with retireWait := true } }
  | .free | .live _ => x

/-- A record freed by retirement (R22). -/
def Grant.freed (x : Grant) : Grant := { gen := x.gen + 1, inFlight := 0, body := .free }

/-- The RETIRED record of a CLOSING grant, read before it is freed (R39). -/
def State.retiredRecord (s : State) (g : GrantNum) : Option Completion :=
  match (s.grant g).body with
  | .closing t c => some (.retired g (s.grant g).gen t.holder c.cause c.notice t.cookie)
  | .free | .live _ => none

/-- The CLOSING grants `gs`, taken in that order, retired: each RETIRED record placed, each entry freed (R22, R39). -/
def State.withRetired (s : State) (gs : List GrantNum) : State :=
  { s with
    grants := Vector.ofFn (fun g : GrantNum => if g ∈ gs then (s.grant g).freed else s.grant g)
    freeList := s.freeList ++ gs
    index := s.index.filter (fun g => !gs.contains g)
    slots := Vector.ofFn (fun sl : SlotNum =>
      { s.slot sl with
        record := (s.slot sl).record.map (fun r =>
          { r with held := r.held - gs.countP (fun g => s.holderSlot g == some sl) }) })
    cq := s.cq ++ gs.filterMap s.retiredRecord }

/-- The CLOSING grants `gs`, taken in that order, joined to the backlog: their retire wait is yes, and BACKLOG is latched
if there are any (R35, R167). -/
def State.withWaiting (s : State) (gs : List GrantNum) : State :=
  { s with
    grants := Vector.ofFn (fun g : GrantNum => if g ∈ gs then (s.grant g).waiting else s.grant g)
    backlog := s.backlog ++ gs.map Event.grant
    alerts := { s.alerts with backlog := s.alerts.backlog || !gs.isEmpty } }

/-- The ready grants `gs` handed over one after another: those for which there is room retire, the others join the backlog
(R35, R39, R167). -/
def State.withReady (s : State) (gs : List GrantNum) : State :=
  (s.withRetired (gs.take (s.room gs.length))).withWaiting (gs.drop (s.room gs.length))

/-- Those of the grants `gs` that are ready to retire (R35). -/
def State.readyAmong (s : State) (gs : List GrantNum) : List GrantNum :=
  gs.filter (fun g =>
    match (s.grant g).body with
    | .closing _ c =>
      decide ((s.grant g).inFlight = 0 ∧ c.retireWait = false ∧
        (c.notice = .notDue ∨ c.notice = .acked ∨ c.notice = .unacked ∨ c.notice = .abandoned))
    | .free | .live _ => false)

/-- The NOTICE frame of a slot's head, as it is built when offered (R112). -/
def State.headFrame (s : State) (sl : SlotNum) : Option NoticeFrame :=
  match (s.slot sl).queue with
  | [] => none
  | g :: _ =>
    match (s.grant g).body with
    | .closing t c =>
      some { dest := t.holder.stationBits, src := s.self, grant := g, gen := (s.grant g).gen, cause := c.cause,
             tryNo := (match c.notice with | .awaitAck tries _ => tries | _ => 0) + 1 }
    | .free | .live _ => none

/-- The slots whose new head's frame is to be offered: the link is UP, the head is QUEUED and its frame state NONE
(R111), in ascending slot number. -/
def State.newHeads (s : State) : List SlotNum :=
  (List.finRange 16).filter (fun sl =>
    decide (s.link = .up ∧ (s.slot sl).frame = .none ∧ s.headNotice sl = some .queued))

/-- The slots `due`, ascending, have the frames of their heads offered in one event: each joins the offer list, and a
transmitter that was free takes the first (R111, R113, R134). -/
def State.withOffers (s : State) (due : List SlotNum) : State :=
  match s.tx, due with
  | .free, sl :: rest =>
    { s with
      slots := Vector.ofFn (fun k : SlotNum =>
        if k = sl then { s.slot k with frame := .sending }
        else if k ∈ rest then { s.slot k with frame := (s.headFrame k).elim .none .offered } else s.slot k)
      offers := s.offers ++ rest
      tx := (s.headFrame sl).elim s.tx (fun f => .notice (some sl) f) }
  | _, _ =>
    { s with
      slots := Vector.ofFn (fun k : SlotNum =>
        if k ∈ due then { s.slot k with frame := (s.headFrame k).elim .none .offered } else s.slot k)
      offers := s.offers ++ due }

/-- A CLOSING record with another notice state. -/
def Grant.withNotice (x : Grant) (n : Notice) : Grant :=
  match x.body with
  | .closing t c => { x with body := .closing t { c with notice := n } }
  | .free | .live _ => x

/-- The notices of the grants `gs` of slot `sl` end with an outcome and `rest` is left of its queue; the slot's frame is
withdrawn if offered, detached if in transmission (R117, R120). -/
def State.withNoticesEnded (s : State) (sl : SlotNum) (gs : List GrantNum) (outcome : Notice) (rest : List GrantNum) :
    State :=
  { s with
    grants := Vector.ofFn (fun g : GrantNum => if g ∈ gs then (s.grant g).withNotice outcome else s.grant g)
    slots := Vector.ofFn (fun k : SlotNum =>
      if k = sl then { s.slot k with queue := rest, frame := .none } else s.slot k)
    offers := s.offers.filter (fun k => k != sl)
    tx := match s.tx with
      | .notice (some k) f => .notice (if k = sl then none else some k) f
      | t => t }

/-- STATION_RESTARTED handed over for the record `x` of slot `sl`: placed, joined to the backlog, or merged into the one
that already waits (R55, R167). -/
def State.withRestarted (s : State) (sl : SlotNum) (x : Station) (epoch : BitVec 16) (swept : Nat) : State :=
  let waits (w : RestartWait) : State :=
    { s with
      slots := Vector.ofFn (fun k : SlotNum =>
        if k = sl then
          { s.slot k with record := (s.slot k).record.map (fun r => { r with restartWaiting := some w }) }
        else s.slot k) }
  match x.restartWaiting with
  | some w => waits { epoch := epoch, swept := min (w.swept + swept) 65535, merged := min (w.merged + 1) 255 }
  | none =>
    if s.room 1 = 1 then { s with cq := s.cq ++ [.restarted x.number epoch swept 1] }
    else
      { waits { epoch := epoch, swept := swept, merged := 1 } with
        backlog := s.backlog ++ [.restarted sl]
        alerts := { s.alerts with backlog := true } }

/-- A tick's countdown: every LIVE grant that has a remaining lifetime has it lowered by one (R28). -/
def State.withCountdown (s : State) : State :=
  { s with
    grants := Vector.ofFn (fun g : GrantNum =>
      match (s.grant g).body with
      | .live t => { s.grant g with body := .live { t with remaining := t.remaining.map (fun n => n - 1) } }
      | .free | .closing _ _ => s.grant g) }

/-- The LIVE grants with remaining lifetime 0, ascending (R29). -/
def State.expired (s : State) : List GrantNum :=
  (List.finRange 512).filter (fun g =>
    match (s.grant g).body with
    | .live t => decide (t.remaining = some 0)
    | .free | .closing _ _ => false)

/-- The grants `gs` expire in that order: all are closed, and those at once ready are handed over (R29). -/
def State.withExpired (s : State) (gs : List GrantNum) : State :=
  let u := s.withClosed .expired gs
  u.withReady (u.readyAmong gs)

/-- Slot `sl`'s head waits for an acknowledgement and is counted: the link is UP, its frame state is NONE and its notice
state AWAIT_ACK (R114); the answer is the head with its tries sent and ticks since last send. -/
def State.countedHead (s : State) (sl : SlotNum) : Option (GrantNum × Nat × Nat) :=
  match (s.slot sl).queue, s.headNotice sl with
  | g :: _, some (.awaitAck tries ticks) =>
    if s.link = .up ∧ (s.slot sl).frame = .none then some (g, tries, ticks) else none
  | _, _ => none

/-- A tick's count of the notice intervals: ticks since last send rises by one in every counted head below the interval
(R114; log 10). -/
def State.withIntervals (s : State) : State :=
  { s with
    grants := Vector.ofFn (fun g : GrantNum =>
      match (List.finRange 16).findSome? (fun sl => (s.countedHead sl).filter (fun h => h.1 == g)) with
      | some (_, tries, ticks) =>
        if ticks < s.noticeInterval then (s.grant g).withNotice (.awaitAck tries (ticks + 1)) else s.grant g
      | none => s.grant g) }

/-- The slots whose head's interval has expired with tries sent that satisfy `p`, ascending (R114, R115). -/
def State.expiredHeads (s : State) (p : Nat → Bool) : List SlotNum :=
  (List.finRange 16).filter (fun sl =>
    match s.countedHead sl with
    | some (_, tries, ticks) => decide (s.noticeInterval ≤ ticks) && p tries
    | none => false)

/-- The heads of the slots `sls`, whose frame states are NONE, end UNACKED in that order and leave their queues; those
ready are handed over (R115, R117). -/
def State.withUnacked (s : State) (sls : List SlotNum) : State :=
  let heads := sls.filterMap (fun sl => (s.slot sl).queue.head?)
  let u : State :=
    { s with
      grants := Vector.ofFn (fun g : GrantNum => if g ∈ heads then (s.grant g).withNotice .unacked else s.grant g)
      slots := Vector.ofFn (fun k : SlotNum =>
        if k ∈ sls then { s.slot k with queue := (s.slot k).queue.tail } else s.slot k) }
  u.withReady (u.readyAmong heads)

/-- An immediate reply offered on an UP link: below the limit of four it joins the reply queue, its count rises and a free
transmitter sends a reply; at the limit it is lost (R84, R85, R134). -/
def State.withReply (s : State) (r : Reply) : State :=
  if s.immCount < 4 then
    { s with
      replyQ := s.replyQ ++ [{ origin := .immediate, frame := r }]
      immCount := s.immCount + 1
      tx := if s.tx = .free then .reply else s.tx }
  else s

/-- A drain has ended: the hold state is HELD, and HOLD_REACHED is placed or joins the backlog (R176, R167). -/
def State.withDrainEnded (s : State) : State :=
  if s.backlog = [] ∧ s.cq.length < 64 then { s with hold := .held, cq := s.cq ++ [.holdReached] }
  else
    { s with
      hold := .held
      backlog := s.backlog ++ [.holdReached]
      alerts := { s.alerts with backlog := true } }

/-- What a return of contexts to IDLE, all of them done, leaves: a drain with every context IDLE ends (R176). -/
def State.withDrainTest (s : State) : State :=
  if s.hold = .draining ∧ (∀ c : CtxNum, (s.ctx c).state = .idle) then s.withDrainEnded else s

/-- A context that waits in REPLY_WAIT has entered IDLE, and the pending mark that names it is none (R103, R104). -/
def State.withContextIdle (s : State) (c : CtxNum) : State :=
  { s with
    ctxs := s.ctxs.set c.val { s.ctx c with state := .idle } c.isLt
    slots := Vector.ofFn (fun sl : SlotNum =>
      if sl = (s.ctx c).slot then
        { s.slot sl with
          record := (s.slot sl).record.map (fun r =>
            { r with pending := if r.pending = some c then none else r.pending }) }
      else s.slot sl) }

/-- What the link's leaving UP does beside its new state: R127, steps 1 to 5. -/
def State.withLinkLeft (s : State) : State :=
  { s with
    receiving := false
    tx := .free
    replyQ := []
    immCount := 0
    offers := []
    alerts := { s.alerts with linkChange := true }
    ctxs := Vector.ofFn (fun c : CtxNum =>
      if (s.ctx c).state = .replyWait then { s.ctx c with state := .idle } else s.ctx c)
    slots := Vector.ofFn (fun sl : SlotNum =>
      { s.slot sl with
        frame := .none
        record := (s.slot sl).record.map (fun r =>
          { r with
            pending :=
              if ∃ c : CtxNum, (s.ctx c).state = .replyWait ∧ (s.ctx c).slot = sl ∧ r.pending = some c then none
              else r.pending }) }) }

/-! ### Requests -/

/-- The READ, WRITE, RENEW, RETURN or PROBE that a frame's row brings. -/
def requestOfRow : Instr → Option Request
  | .read src seq grant gen offset count =>
    some { kind := .read, src := src, seq := seq, grant := grant, gen := gen, offset := offset, count := count,
           payload := [] }
  | .write src seq grant gen offset count payload =>
    some { kind := .write, src := src, seq := seq, grant := grant, gen := gen, offset := offset, count := count,
           payload := payload }
  | .renew src seq grant gen => some (plainRequest .renew src seq grant gen)
  | .returnGrant src seq grant gen => some (plainRequest .returnGrant src seq grant gen)
  | .probe src seq grant gen => some (plainRequest .probe src seq grant gen)
  | _ => none

/-- The arrival that a frame's row is. -/
def arrivalOfRow : Instr → Option Arrival
  | .hello src seq epoch start => some (.hello src seq epoch start)
  | .noticeAck src seq grant gen => some (.noticeAck src seq grant gen)
  | .unknownKindFrame src seq kind => some (.unknown src seq kind)
  | c => (requestOfRow c).map Arrival.request

/-- The state in which an arrival is taken: the reception has ended (R131). -/
def State.received (s : State) : State := { s with receiving := false }

/-- The reply to a request, its kind, sequence number and reference echoed, without data (R67). -/
def Request.reply (r : Request) (s : State) (status : ReplyStatus) (value : Word) (replayed : Bool) : Reply :=
  { dest := r.src, src := s.self, seq := r.seq, grant := r.grant, gen := r.gen, replayed := replayed,
    kind := r.kind.code, status := status, value := value, data := [] }

/-- A reply that refers to no grant: reference 0/0, REPLAYED clear, no data (R67). -/
def bareReply (s : State) (dest : StationNum) (kind seq : Byte) (status : ReplyStatus) (value : Word) : Reply :=
  { dest := dest, src := s.self, seq := seq, grant := 0, gen := 0, replayed := false, kind := kind, status := status,
    value := value, data := [] }

/-- A definitive outcome answered at the arrival: last accepted and reply cache of the record in slot `sl` are set (R58,
R77). -/
def State.withOutcome (s : State) (sl : SlotNum) (r : Request) (status : ReplyStatus) (value : Word) : State :=
  { s with
    slots := Vector.ofFn (fun k : SlotNum =>
      if k = sl then
        { s.slot k with
          record := (s.slot k).record.map (fun x =>
            { x with
              session := x.session.map (fun e => { e with last := r.seq })
              cache := some { kind := r.kind, seq := r.seq, status := status, value := value } }) }
      else s.slot k) }

/-- The request passes the sequence rule: as a new one, or as a duplicate READ or PROBE to re-execute, which carries the
REPLAYED flag (R56). -/
def PassesSequence (x : Station) (e : Session) (r : Request) (replayed : Bool) : Prop :=
  x.pending = none ∧
    ((replayed = false ∧ r.seq = e.last + 1) ∨
      (replayed = true ∧ r.seq = e.last ∧ (r.kind = .read ∨ r.kind = .probe) ∧ ∃ c, x.cache = some c ∧ c.kind = r.kind))

/-- The first of a list of checks that fails, and its answer. -/
def firstFailure {α : Type} (checks : List (Bool × α)) : Option α := (checks.find? (fun c => c.1)).map (fun c => c.2)

/-- Steps 9 to 13 of the check order, each with the answer it gives when its test fails (R73 to R75). -/
def State.requestChecks (s : State) (r : Request) : List (Bool × ReplyStatus) :=
  if h : r.grant.toNat < 512 then
    let x := s.grant ⟨r.grant.toNat, h⟩
    (decide (x.body = .free ∨ x.gen ≠ r.gen), .stale) ::
      match x.body with
      | .free => []
      | .closing _ _ => [(true, .closed)]
      | .live t =>
        [(decide (t.holder ≠ .station r.src ∧ ¬ (t.holder = .shared ∧ r.kind ≠ .returnGrant)), .notHolder),
          (decide ((r.kind = .read ∧ t.rights = .write) ∨ (r.kind = .write ∧ t.rights = .read)), .noRight),
          (decide ((r.kind = .read ∨ r.kind = .write) ∧ (r.count.toNat = 0 ∨ 16 < r.count.toNat)), .badLength),
          (decide (r.kind = .write ∧ r.payload.length ≠ r.count.toNat), .badLength),
          (decide ((r.kind = .read ∨ r.kind = .write) ∧ t.length < r.offset.toNat + r.count.toNat), .outOfWindow),
          (decide (r.kind = .renew ∧ t.remaining = none), .notTimed),
          (decide (r.kind = .renew ∧ t.credits = 0), .noCredit)]
  else [(true, .badRef)]

/-- The request names the LIVE grant `g` with terms `t`, whose holder is its source, or SHARED for a kind other than
RETURN (R73). -/
def State.ReachesLive (s : State) (r : Request) (g : GrantNum) (t : Terms) : Prop :=
  r.grant.toNat = g.val ∧ (s.grant g).gen = r.gen ∧ (s.grant g).body = .live t ∧
    (t.holder = .station r.src ∨ (t.holder = .shared ∧ r.kind ≠ .returnGrant))

/-! ### Rows -/

/-- The row is POWER_ON_RESET. -/
def isPowerOnReset : Instr → Bool
  | .powerOnReset _ _ _ => true
  | _ => false

/-- The row resets the part: POWER_ON_RESET, or a CONTROL write with ENGINE_RESET 1 (R184, R185). -/
def resetsPart : Instr → Bool
  | .powerOnReset _ _ _ | .engineReset _ => true
  | .linkEnable v | .linkDisable v => v.getLsbD 1
  | _ => false

/-- The row clears LINK_CHANGE: a reset, or a write of ALERTS with bit 0 set (R171, R173). -/
def clearsLinkChange (c : Instr) : Bool :=
  match c with
  | .alertsClear v => v.getLsbD 0
  | c => resetsPart c

/-! ### Host commands -/

/-- The record that a host command's row submits, or that SUBMIT submits: the staged one (R139, log 3). -/
def hostRecord (s : State) : Instr → Option Record
  | .submit _ => some s.stage
  | .issue tag f => some (encodeCommand tag (.issue f))
  | .amend tag f => some (encodeCommand tag (.amend f))
  | .revoke tag grant gen => some (encodeCommand tag (.revoke grant gen))
  | .sweep tag station shared => some (encodeCommand tag (.sweep station shared))
  | .queryGrant tag grant part => some (encodeCommand tag (.queryGrant grant part))
  | .queryLine tag line skip => some (encodeCommand tag (.queryLine line skip))
  | .admitStation tag station quota => some (encodeCommand tag (.admitStation station quota))
  | .bar tag station => some (encodeCommand tag (.bar station))
  | .forget tag station => some (encodeCommand tag (.forget station))
  | .queryStation tag station part => some (encodeCommand tag (.queryStation station part))
  | .setLimits tag f => some (encodeCommand tag (.setLimits f))
  | .setTiming tag f => some (encodeCommand tag (.setTiming f))
  | .hold tag freeze => some (encodeCommand tag (.hold freeze))
  | .resume tag => some (encodeCommand tag .resume)
  | .badCommand tag code => some (encodeCommand tag (.bad code))
  | _ => none

/-- The entries of the window index, other than `skip`, that conflict with a proposed window, in index order (R17,
R18). -/
def State.conflicting (s : State) (skip : Option GrantNum) (t : Terms) : List GrantNum :=
  s.index.filter (fun g =>
    some g != skip &&
      (match (s.grant g).body.terms? with | some u => windowsConflict t u | none => false))

/-- The refusal CONFLICT with the first conflicting reference (R17, R143). -/
def State.conflictAnswer (s : State) (gs : List GrantNum) : CmdStatus × Word × Word :=
  (.conflict, (gs.head?.map (fun g => refWord g (s.grant g).gen)).getD 0, 0)

/-- The record that a passing ISSUE fills (R20). -/
def issuedTerms (f : IssueFields) : Terms :=
  { holder := if f.shared then .shared else .station f.station
    base := f.base.toNat
    length := f.length.toNat
    rights := if f.read then (if f.write then .readWrite else .read) else .write
    remaining := if f.lifetimePresent then some f.lifetime.toNat else none
    credits := f.credits.toNat
    renewAmount := if 0 < f.credits.toNat then some f.renewAmount.toNat else none
    notify := f.notify
    cookie := f.cookie }

/-- The checks of ISSUE in their order, each with its status and results (R19, R143). -/
def State.issueChecks (s : State) (f : IssueFields) : List (Bool × CmdStatus × Word × Word) :=
  let r := s.stationRecord f.station
  [(decide ((f.shared = false ∧ (f.station = 0 ∨ f.station = 63)) ∨ f.length.toNat = 0 ∨ 65536 < f.length.toNat ∨
      (f.read = false ∧ f.write = false) ∨ (f.lifetimePresent = true ∧ f.lifetime = 0) ∨
      (f.credits ≠ 0 ∧ f.renewAmount = 0)), .badField, 0, 0),
    (decide (s.memTop < f.base.toNat + f.length.toNat), .badWindow, 0, 0),
    (!f.shared && r.elim true (fun x => x.barred), .noStation, 0, 0),
    (!f.shared && r.elim true (fun x => decide (x.quota ≤ x.held)), .quota,
      BitVec.ofNat 32 ((r.map (fun x => x.held)).getD 0), BitVec.ofNat 32 ((r.map (fun x => x.quota)).getD 0)),
    (!(s.conflicting none (issuedTerms f)).isEmpty, s.conflictAnswer (s.conflicting none (issuedTerms f))),
    (s.freeList.isEmpty, .tableFull, 0, 0)]

/-- The resolution of a command's reference as checks, with the entry's state and generation as results (R8, R143). -/
def State.referenceChecks (s : State) (grant : BitVec 16) (gen : BitVec 8) : List (Bool × CmdStatus × Word × Word) :=
  if h : grant.toNat < 512 then
    let x := s.grant ⟨grant.toNat, h⟩
    [(decide (x.body = .free ∨ x.gen ≠ gen), .stale, place 0 x.body.code ||| place 8 x.gen, 0),
      (!x.body.isLive, .closed, place 0 x.body.code ||| place 8 x.gen, 0)]
  else [(true, .badRef, 0, 0)]

/-- The record that an AMEND of a record with terms `t` leaves (R148). -/
def amendedRecord (f : AmendFields) (t : Terms) : Terms :=
  let credits := min (t.credits + f.credits.toNat) 15
  { holder := t.holder
    base := t.base
    length := if f.lengthSet then f.length.toNat else t.length
    rights :=
      if f.rightsSet then (if f.read then (if f.write then .readWrite else .read) else .write) else t.rights
    remaining :=
      if f.lifetimeAction = 1 then some f.lifetime.toNat else if f.lifetimeAction = 2 then none else t.remaining
    credits := credits
    renewAmount := if 0 < credits ∧ f.renewSet = true then some f.renewAmount.toNat else t.renewAmount
    notify := if f.notifyAction = 1 then true else if f.notifyAction = 2 then false else t.notify
    cookie := t.cookie }

/-- The checks of AMEND that follow the resolution of its reference to grant `g` with terms `t` (R147). -/
def State.amendChecks (s : State) (f : AmendFields) (g : GrantNum) (t : Terms) :
    List (Bool × CmdStatus × Word × Word) :=
  let u := amendedRecord f t
  let widened := decide (t.length < u.length ∨ (t.rights = .read ∧ u.rights ≠ .read))
  [(decide (f.lifetimeAction = 3 ∨ f.notifyAction = 3 ∨ (f.lifetimeAction = 1 ∧ f.lifetime = 0) ∨
      15 < f.credits.toNat ∨ (f.renewSet = true ∧ f.renewAmount = 0) ∨
      (f.rightsSet = true ∧ f.read = false ∧ f.write = false) ∨
      (f.lengthSet = true ∧ (f.length.toNat = 0 ∨ 65536 < f.length.toNat))), .badField, 0, 0),
    (decide (0 < u.credits ∧ f.renewSet = false ∧ t.renewAmount = none), .badField, 0, 0),
    (decide (0 < (s.grant g).inFlight ∧
      (u.length < t.length ∨ (t.rights ≠ .write ∧ u.rights = .write) ∨ (t.rights ≠ .read ∧ u.rights = .read))),
      .inFlight, 0, 0),
    (decide (f.lengthSet = true ∧ s.memTop < t.base + f.length.toNat), .badWindow, 0, 0),
    (widened && !(s.conflicting (some g) u).isEmpty, s.conflictAnswer (s.conflicting (some g) u))]

/-- `s` with its grant `g`'s record replaced. -/
def State.withGrant (s : State) (g : GrantNum) (x : Grant) : State :=
  { s with grants := Vector.ofFn (fun k : GrantNum => if k = g then x else s.grant k) }

/-- `s` with the station record of slot `sl` replaced. -/
def State.withRecord (s : State) (sl : SlotNum) (r : Option Station) : State :=
  { s with slots := Vector.ofFn (fun k : SlotNum => if k = sl then { s.slot k with record := r } else s.slot k) }

end Sys2Proof.Machine
end

