-- ==== Sys2Proof/Certificates/Slice0/Obligations.lean ====
section
/-! DEFINITION. The statements for the provers. Where a statement's next state is written as `{ s with … }`, everything
that is not named there is unchanged: that is its frame. -/

open Sys2Proof Sys2Proof.Machine

/-! ### The step, the resets and the register window -/

/-- A step takes the command at the front of the queue and is `exec` of it with the queue's rest; on an empty queue the
part idles (the queue is the model's, log 1). -/
def Obligations.StepTakesFrontCommand : Prop :=
  ∀ s : State,
    (∀ (c : Instr) (rest : List Instr), step { s with pending := c :: rest } = exec c { s with pending := rest }) ∧
      step { s with pending := [] } = .next { s with pending := [] }

/-- Every command answers a next state, in every state, and leaves the waiting commands alone; that POWER_ON_RESET too
keeps them is the model's choice (log 1). None but POWER_ON_RESET changes SELF or the levels that hold the part in reset,
which the model keeps between commands (log 18), and while the part is held in reset none of them changes anything. -/
def Obligations.OnlyPowerOnResetMovesPinsAndSelf : Prop :=
  ∀ (c : Instr) (s : State), ∃ t, exec c s = .next t ∧ t.pending = s.pending ∧
    (isPowerOnReset c = false →
      t.self = s.self ∧ t.resetnLow = s.resetnLow ∧ t.supplyOut = s.supplyOut ∧
        (s.resetnLow = true ∨ s.supplyOut = true → t = s))

/-- What POWER_ON_RESET leaves. The contexts' fields that have no reset value (log 8), the record of node memory (log 12),
the waiting commands (log 1) and SELF while the part is still held in reset (log 18) are the model's choices. -/
def Obligations.PowerOnResetValues : Prop :=
  ∀ (low out : Bool) (straps : BitVec 6) (s : State), ∃ t, exec (.powerOnReset low out straps) s = .next t ∧
    (∀ g, t.grant g = { gen := 0, inFlight := 0, body := .free }) ∧
    (∀ sl, t.slot sl = { record := none, queue := [], frame := .none }) ∧
    (∀ c, (t.ctx c).state = .idle ∧ (t.ctx c).orphaned = false ∧ (t.ctx c).replayed = false ∧ (t.ctx c).issued = 0 ∧
      (t.ctx c).done = 0 ∧ (t.ctx c).buffer = Vector.replicate 16 0) ∧
    t = { t with
      resetnLow := low
      supplyOut := out
      self := if low = true ∨ out = true then s.self else straps
      linkEnable := false
      enables := { cq := false, linkChange := false, cmdOverrun := false, busFault := false, backlog := false }
      alerts := { linkChange := false, cmdOverrun := false, busFault := false, backlog := false }
      stage := #v[0, 0, 0, 0]
      fifo := []
      memTop := 0
      policy := .closed
      defaultQuota := 32
      tickPeriod := .ms1
      noticeInterval := 4
      noticeTries := 3
      tickPhase := 0
      freeList := List.finRange 512
      index := []
      immCount := 0
      port := .free
      lastServed := 7
      nodeMem := s.nodeMem
      offers := []
      link := .down
      trainingTime := 0
      receiving := false
      replyQ := []
      tx := .free
      cq := []
      backlog := []
      hold := .running
      freeze := false
      pending := s.pending }

/-- The free list after power-on reset, and the references that the first ISSUEs return while no grant retires: 0/0, 1/0
and so on through 511/0. -/
def Obligations.FirstIssuesAllocateInOrder : Prop :=
  (∀ (low out : Bool) (straps : BitVec 6) (s : State), ∃ t, exec (.powerOnReset low out straps) s = .next t ∧
    t.freeList = List.finRange 512 ∧ t.freeList.head? = some 0 ∧ ∀ g, (t.grant g).gen = 0) ∧
  ∀ (tag : BitVec 16) (f : IssueFields) (s : State) (k : Fin 512), s.CanTake →
    firstFailure (s.issueChecks f) = none → s.freeList = (List.finRange 512).drop k.val → (∀ g, (s.grant g).gen = 0) →
    ∃ t left, exec (.issue tag f) s = .next t ∧
      t.cq = s.cq ++ [.cmdDone 1 tag .ok (refWord k 0) left 0] ∧
      t.freeList = (List.finRange 512).drop (k.val + 1) ∧ ∀ g, (t.grant g).gen = 0

/-- An engine reset acts on the state that the other fields of the same CONTROL write leave, and sets every block's state
as its rule gives; what is not named is kept. That the contexts' fields without meaning in IDLE are kept is the model's
choice (log 8). -/
def Obligations.EngineResetClears : Prop :=
  ∀ (v : Word) (s : State), s.inReset = false →
    ∃ u t, exec (.interruptEnableWrite v) s = .next u ∧ exec (.engineReset v) s = .next t ∧
      (∀ g, t.grant g =
        if (u.grant g).body = .free then u.grant g else { gen := (u.grant g).gen + 1, inFlight := 0, body := .free }) ∧
      (∀ sl, t.slot sl =
        { record := (u.slot sl).record.map (fun r =>
            { r with
              held := 0, session := none, pending := none, cache := none, admittedWaiting := false
              restartWaiting := none })
          queue := []
          frame := .none }) ∧
      (∀ c, t.ctx c =
        { u.ctx c with state := .idle, orphaned := false, replayed := false, issued := 0, done := 0 }) ∧
      (u.port = .free → t.port = .free) ∧ (∀ owner op, u.port = .busy owner op → t.port = .busy none op) ∧
      t = { u with
        grants := t.grants
        slots := t.slots
        ctxs := t.ctxs
        port := t.port
        freeList := t.freeList
        index := []
        tickPhase := 0
        immCount := 0
        lastServed := 7
        offers := []
        replyQ := []
        tx := .free
        stage := #v[0, 0, 0, 0]
        fifo := []
        cq := []
        backlog := []
        alerts := { linkChange := false, cmdOverrun := false, busFault := false, backlog := false }
        hold := .running
        freeze := false }

/-- The free list that an engine reset leaves: the entries that were FREE, in their order, then those it frees,
ascending; all 512, each once; the generations of the freed ones raised by one. -/
def Obligations.EngineResetRebuildsFreeList : Prop :=
  ∀ (v : Word) (s : State), s.inReset = false → s.GrantListsPartition →
    ∃ t, exec (.engineReset v) s = .next t ∧
      t.freeList = s.freeList ++ (List.finRange 512).filter (fun g => !(s.grant g).body.isFree) ∧
      t.freeList.length = 512 ∧ t.freeList.Nodup ∧
      (∀ g ∈ s.freeList, (t.grant g).gen = (s.grant g).gen) ∧
      (∀ g, g ∉ s.freeList → (t.grant g).gen = (s.grant g).gen + 1) ∧ ∀ g, (t.grant g).body = .free

/-- A CONTROL write. The four rows that are CONTROL writes are one write each (log 14), so they agree where their own bit
is as the word has it. The enables take the values written; LINK_ENABLE written 1 with SELF valid starts the training, is
ignored while SELF is not valid, and written 0 in TRAINING takes the link DOWN. (LINK_ENABLE written 0 in UP and
ENGINE_RESET written 1 have statements of their own.) -/
def Obligations.ControlWriteIsOneEvent : Prop :=
  ∀ (v : Word) (s : State), s.inReset = false →
    (v.getLsbD 0 = s.linkEnable → (s.linkEnable = false → s.link = .down) →
      exec (.interruptEnableWrite v) s = .next
        { s with
          enables :=
            { cq := v.getLsbD 4, linkChange := v.getLsbD 8, cmdOverrun := v.getLsbD 9, busFault := v.getLsbD 10
              backlog := v.getLsbD 11 } }) ∧
    (∃ t, (if v.getLsbD 0 = true then exec (.linkEnable v) s else exec (.linkDisable v) s) = .next t ∧
      (if v.getLsbD 1 = true then exec (.engineReset v) s else exec (.interruptEnableWrite v) s) = .next t) ∧
    (v.getLsbD 1 = false →
      (v.getLsbD 0 = true → s.selfValid = true → s.linkEnable = false → s.link = .down →
        exec (.linkEnable v) s =
          .next { s with enables := Enables.ofWord v, linkEnable := true, link := .training, trainingTime := 0 }) ∧
      (v.getLsbD 0 = true → s.selfValid = false → exec (.linkEnable v) s = .next { s with enables := Enables.ofWord v }) ∧
      (v.getLsbD 0 = true → s.linkEnable = true → exec (.linkEnable v) s = .next { s with enables := Enables.ofWord v }) ∧
      (v.getLsbD 0 = false → s.link = .training ∨ s.link = .down →
        exec (.linkDisable v) s = .next { s with enables := Enables.ofWord v, linkEnable := false, link := .down }))

/-- The link leaves UP, for DOWN by LINK_DISABLE and for TRAINING by SYNC_LOST: every frame on it is dropped, REPLY_WAIT
contexts enter IDLE, LINK_CHANGE is latched, and a drain that this ends hands HOLD_REACHED over. -/
def Obligations.LinkLeavingUpDropsFrames : Prop :=
  ∀ (v : Word) (s : State), s.inReset = false → s.link = .up →
    (v.getLsbD 0 = false → v.getLsbD 1 = false →
      exec (.linkDisable v) s = .next
        (let u := ({ s with enables := Enables.ofWord v, linkEnable := false, link := .down } : State).withLinkLeft
         if ∃ c, (s.ctx c).state = .replyWait then u.withDrainTest else u)) ∧
    exec .syncLost s = .next
      (let u := ({ s with link := .training, trainingTime := 0 } : State).withLinkLeft
       if ∃ c, (s.ctx c).state = .replyWait then u.withDrainTest else u)

/-- The training completes: the link is UP with LINK_CHANGE latched, and the frames of the slots whose heads are due, still
QUEUED or in AWAIT_ACK with tries remaining, are offered in ascending slot number. SYNC_LOST in TRAINING restarts the
training time; in DOWN it changes nothing. That TRAINING_COMPLETE changes nothing outside TRAINING (log 5) and that the
training time stays at 200 µs in UP (log 9) are the model's choices. -/
def Obligations.TrainingCompletesWithDueOffers : Prop :=
  ∀ s : State, s.inReset = false →
    (s.link = .training → s.QuietLink →
      exec .trainingComplete s = .next
        (({ s with
          link := .up, trainingTime := 200, alerts := { s.alerts with linkChange := true } } : State).withOffers
            ((List.finRange 16).filter (fun sl =>
              match s.headNotice sl with
              | some .queued => true
              | some (.awaitAck tries _) => decide (tries < s.noticeTries)
              | _ => false)))) ∧
    (s.link ≠ .training → exec .trainingComplete s = .next s) ∧
    (s.link = .training → exec .syncLost s = .next { s with trainingTime := 0 }) ∧
    (s.link = .down → exec .syncLost s = .next s)

/-- LINK_CHANGE is latched by each command that takes the link between UP and not UP, and by no other. -/
def Obligations.LinkChangeLatches : Prop :=
  ∀ (c : Instr) (s : State), WellFormed c = true → clearsLinkChange c = false →
    ∃ t, exec c s = .next t ∧
      t.alerts.linkChange = if (s.link = .up ↔ t.link = .up) then s.alerts.linkChange else true

/-- The staging words: a write replaces one of them and a read returns it; nothing but a write and the resets, which set
all four to 0, changes them; and a write does not reach the records in the FIFO. -/
def Obligations.StagingWordsHoldWhatIsWritten : Prop :=
  (∀ (i : Fin 4) (v : Word) (s : State), s.inReset = false →
    exec (.stageWrite i v) s = .next { s with stage := s.stage.set i.val v i.isLt } ∧
    readWindow { s with stage := s.stage.set i.val v i.isLt } (BitVec.ofNat 8 (16 + 4 * i.val)) 15 = v) ∧
  (∀ (c : Instr) (s : State), WellFormed c = true → (∀ i v, c ≠ .stageWrite i v) →
    ∃ t, exec c s = .next t ∧
      t.stage = if resetsPart c = true ∧ (s.inReset = false ∨ isPowerOnReset c = true) then #v[0, 0, 0, 0] else s.stage)

/-- A write to ALERTS clears the flags whose bits are written 1, and a write that the window ignores changes nothing. That
full-width writes above 40H and at no multiple of four are among the ignored ones is DEDUCED (log 22). -/
def Obligations.AlertsAndIgnoredWrites : Prop :=
  ∀ s : State, s.inReset = false →
    (∀ v : Word, exec (.alertsClear v) s = .next
      { s with
        alerts :=
          { linkChange := s.alerts.linkChange && !v.getLsbD 0
            cmdOverrun := s.alerts.cmdOverrun && !v.getLsbD 1
            busFault := s.alerts.busFault && !v.getLsbD 2
            backlog := s.alerts.backlog && !v.getLsbD 3 } }) ∧
    ∀ (offset : BitVec 8) (lanes : BitVec 4) (v : Word), WellFormed (.ignoredWrite offset lanes v) = true →
      exec (.ignoredWrite offset lanes v) s = .next s

/-- What the window shows: ID, the fields of CONTROL, STATUS and ALERTS, the head record's words, 0 for SUBMIT and CQ_ACK and
while the part is held in reset; the bytes that a narrow read returns, those of the word in which its offset falls; and
when IRQn is asserted. A read is a function of the state in this model, which leaves the bytes not addressed 0 (log 16),
and so are the words and IRQn (log 20). That a read's offset names the word it falls in, whatever its lanes, is DEDUCED
(log 22). -/
def Obligations.WindowShowsState : Prop :=
  ∀ s : State, s.QueuesSound →
    (s.inReset = true → ∀ offset lanes, readWindow s offset lanes = 0) ∧
    (s.inReset = false →
      readWindow s 0x00 15 = 0x22400001#32 ∧
      (readWindow s 0x04 15).getLsbD 0 = s.linkEnable ∧ (readWindow s 0x04 15).getLsbD 1 = false ∧
      Enables.ofWord (readWindow s 0x04 15) = s.enables ∧
      bits (readWindow s 0x08 15) 0 2 = s.link.code ∧
      (readWindow s 0x08 15).getLsbD 2 = decide (s.self = 0 ∨ s.self = 63) ∧
      (readWindow s 0x08 15).getLsbD 3 = decide (s.backlog ≠ []) ∧
      bits (readWindow s 0x08 15) 4 2 = s.hold.code ∧ bits (readWindow s 0x08 15) 8 6 = s.self ∧
      (bits (readWindow s 0x08 15) 16 5).toNat = s.fifo.length ∧
      (bits (readWindow s 0x08 15) 24 7).toNat = s.cq.length ∧
      (readWindow s 0x0C 15).getLsbD 0 = s.alerts.linkChange ∧
      (readWindow s 0x0C 15).getLsbD 1 = s.alerts.cmdOverrun ∧
      (readWindow s 0x0C 15).getLsbD 2 = s.alerts.busFault ∧ (readWindow s 0x0C 15).getLsbD 3 = s.alerts.backlog ∧
      (∀ c rest, s.cq = c :: rest → ∀ i : Fin 4,
        readWindow s (BitVec.ofNat 8 (48 + 4 * i.val)) 15 = c.words[i.val]) ∧
      (s.cq = [] → ∀ i : Fin 4, readWindow s (BitVec.ofNat 8 (48 + 4 * i.val)) 15 = 0) ∧
      readWindow s 0x20 15 = 0 ∧ readWindow s 0x40 15 = 0 ∧
      ∀ (offset : BitVec 8) (lanes : BitVec 4) (b : Fin 4),
        bits (readWindow s offset lanes) (8 * b.val) 8 =
          if lanes.getLsbD b.val = true then bits (readWindow s (BitVec.ofNat 8 (offset.toNat / 4 * 4)) 15) (8 * b.val) 8
          else 0) ∧
    (irqAsserted s = true ↔
      (s.cq ≠ [] ∧ s.enables.cq = true) ∨ (s.alerts.linkChange = true ∧ s.enables.linkChange = true) ∨
        (s.alerts.cmdOverrun = true ∧ s.enables.cmdOverrun = true) ∨
        (s.alerts.busFault = true ∧ s.enables.busFault = true) ∨ (s.alerts.backlog = true ∧ s.enables.backlog = true))

/-! ### The command FIFO and the completion queue -/

/-- A submitted record joins the tail of the FIFO and waits while no command can be taken, or is dropped at 16 records
with CMD_OVERRUN latched. A host command's row is the submission of its record (log 3), so two rows with one record, the
staged one included, do the same. -/
def Obligations.SubmitFollowsFifo : Prop :=
  ∀ (c : Instr) (r : Record) (s : State), s.inReset = false → hostRecord s c = some r →
    (16 ≤ s.fifo.length → exec c s = .next { s with alerts := { s.alerts with cmdOverrun := true } }) ∧
    (s.fifo.length < 16 → s.backlog ≠ [] ∨ 64 ≤ s.cq.length → exec c s = .next { s with fifo := s.fifo ++ [r] }) ∧
    ∀ d : Instr, hostRecord s d = some r → ∃ t, exec c s = .next t ∧ exec d s = .next t

/-- A command taken places its CMD_DONE record, with its code and tag as received, ahead of the RETIRED records that its
execution produces; a refused command changes nothing else. -/
def Obligations.TakenCommandPlacesDoneRecord : Prop :=
  ∀ (c : Instr) (r : Record) (s : State), s.CanTake → hostRecord s c = some r →
    ∃ t status w1 w2 w3 rest, exec c s = .next t ∧ t.fifo = [] ∧
      t.cq = s.cq ++ .cmdDone (r[0].extractLsb' 0 4) (r[0].extractLsb' 16 16) status w1 w2 w3 :: rest ∧
      (∀ x ∈ rest, ∃ g gen holder cause outcome cookie, x = .retired g gen holder cause outcome cookie) ∧
      (status ≠ .ok → t = s.report (r[0].extractLsb' 0 4) (r[0].extractLsb' 16 16) status w1 w2 w3)

/-- A write to CQ_ACK removes the head of the completion queue and gives its slot to the head of the backlog, as
BACKLOG_PLACE does, and otherwise to the head of the FIFO, which is executed as it would be on submission; on an empty
queue it does nothing. No other command but a reset removes a record. (That BACKLOG_PLACE is a row of its own: log 4.) -/
def Obligations.CqAckFreesOneSlot : Prop :=
  (∀ (v : Word) (s : State), s.inReset = false →
    (s.cq = [] → exec (.cqAck v) s = .next s) ∧
    (s.cq ≠ [] → s.backlog = [] → s.fifo = [] → exec (.cqAck v) s = .next { s with cq := s.cq.tail }) ∧
    (s.cq ≠ [] → s.backlog ≠ [] →
      ∃ t, exec (.cqAck v) s = .next t ∧ exec .backlogPlace { s with cq := s.cq.tail } = .next t) ∧
    ∀ r rest, s.cq.length = 64 → s.backlog = [] → s.fifo = r :: rest →
      ∃ t, exec (.submit 0) { s with cq := s.cq.tail, fifo := [], stage := r } = .next t ∧
        exec (.cqAck v) s = .next { t with fifo := rest, stage := s.stage }) ∧
  ∀ (c : Instr) (s : State), WellFormed c = true → (∀ v, c ≠ .cqAck v) → resetsPart c = false →
    ∃ t, exec c s = .next t ∧ s.cq <+: t.cq

/-- A free slot given to the head of the backlog: its record is made and placed, and the entry's source changes as its
kind says. That without a slot or an entry nothing happens is the model's choice (log 5). -/
def Obligations.BacklogPlacePlacesHead : Prop :=
  ∀ s : State, s.inReset = false →
    (s.backlog = [] ∨ 64 ≤ s.cq.length → exec .backlogPlace s = .next s) ∧
    ∀ rest, s.cq.length < 64 →
      (∀ g t c, s.backlog = .grant g :: rest → (s.grant g).body = .closing t c →
        exec .backlogPlace s = .next (({ s with backlog := rest } : State).withRetired [g])) ∧
      (∀ sl r, s.backlog = .admitted sl :: rest → (s.slot sl).record = some r →
        exec .backlogPlace s = .next
          (({ s with backlog := rest, cq := s.cq ++ [.admitted r.number sl] } : State).withRecord sl
            (some { r with admittedWaiting := false }))) ∧
      (∀ sl r w, s.backlog = .restarted sl :: rest → (s.slot sl).record = some r → r.restartWaiting = some w →
        exec .backlogPlace s = .next
          (({ s with
            backlog := rest, cq := s.cq ++ [.restarted r.number w.epoch w.swept w.merged] } : State).withRecord sl
              (some { r with restartWaiting := none }))) ∧
      (s.backlog = .holdReached :: rest →
        exec .backlogPlace s = .next { s with backlog := rest, cq := s.cq ++ [.holdReached] })

/-! ### Host commands: the grant table -/

/-- ISSUE refused: the first of its checks that fails gives status and results, and nothing but the completion queue
changes. -/
def Obligations.IssueRefusedByFirstFailingCheck : Prop :=
  ∀ (tag : BitVec 16) (f : IssueFields) (s : State) (status : CmdStatus) (w1 w2 : Word), s.CanTake →
    firstFailure (s.issueChecks f) = some (status, w1, w2) →
    exec (.issue tag f) s = .next (s.report 1 tag status w1 w2 0)

/-- ISSUE passing every check: the head of the free list is LIVE with the fields given, at its place in the window index,
and the holder's held count has risen. -/
def Obligations.IssueAllocates : Prop :=
  ∀ (tag : BitVec 16) (f : IssueFields) (s : State) (g : GrantNum) (rest : List GrantNum), s.CanTake →
    s.GrantListsPartition → s.IndexSorted → firstFailure (s.issueChecks f) = none → s.freeList = g :: rest →
    ∃ before after, s.index = before ++ after ∧
      (∀ k ∈ before, ∀ u, (s.grant k).body.terms? = some u →
        u.base < f.base.toNat ∨ (u.base = f.base.toNat ∧ k < g)) ∧
      (∀ k ∈ after, ∀ u, (s.grant k).body.terms? = some u →
        f.base.toNat < u.base ∨ (f.base.toNat = u.base ∧ g < k)) ∧
      exec (.issue tag f) s = .next
        ((({ s with
          freeList := rest
          index := before ++ g :: after
          slots := Vector.ofFn (fun sl : SlotNum =>
            if f.shared = false ∧ s.findSlot f.station = some sl then
              { s.slot sl with record := (s.slot sl).record.map (fun r => { r with held := r.held + 1 }) }
            else s.slot sl) } : State).withGrant g
              { gen := (s.grant g).gen, inFlight := 0, body := .live (issuedTerms f) }).report
                1 tag .ok (refWord g (s.grant g).gen) (BitVec.ofNat 32 rest.length) 0)

/-- AMEND and REVOKE with a reference that does not resolve to a LIVE entry, and AMEND refused by one of its own checks:
the first check that fails gives status and results, and nothing but the completion queue changes. -/
def Obligations.AmendAndRevokeRefused : Prop :=
  ∀ (tag : BitVec 16) (s : State) (status : CmdStatus) (w1 w2 : Word), s.CanTake →
    (∀ f : AmendFields, firstFailure (s.referenceChecks f.grant f.gen) = some (status, w1, w2) →
      exec (.amend tag f) s = .next (s.report 2 tag status w1 w2 0)) ∧
    (∀ (grant : BitVec 16) (gen : BitVec 8), firstFailure (s.referenceChecks grant gen) = some (status, w1, w2) →
      exec (.revoke tag grant gen) s = .next (s.report 3 tag status w1 w2 0)) ∧
    ∀ (f : AmendFields) (g : GrantNum) (t : Terms), f.grant.toNat = g.val → (s.grant g).gen = f.gen →
      (s.grant g).body = .live t → firstFailure (s.amendChecks f g t) = some (status, w1, w2) →
      exec (.amend tag f) s = .next (s.report 2 tag status w1 w2 0)

/-- AMEND passing its checks changes the record's terms, all actions together, and nothing else but the completion
queue; its results are the reference and the terms after the amendment. -/
def Obligations.AmendApplies : Prop :=
  ∀ (tag : BitVec 16) (f : AmendFields) (s : State) (g : GrantNum) (t : Terms), s.CanTake → f.grant.toNat = g.val →
    (s.grant g).gen = f.gen → (s.grant g).body = .live t → firstFailure (s.amendChecks f g t) = none →
    exec (.amend tag f) s = .next
      ((s.withGrant g { s.grant g with body := .live (amendedRecord f t) }).report 2 tag .ok
        (refWord g (s.grant g).gen)
        (number 0 17 (amendedRecord f t).length ||| place 17 (amendedRecord f t).rights.code |||
          flag 19 (amendedRecord f t).notify ||| number 20 4 (amendedRecord f t).credits)
        (number 0 16 ((amendedRecord f t).remaining.getD 0) ||| flag 16 (amendedRecord f t).remaining.isSome))

/-- REVOKE of a LIVE grant closes it with cause REVOKED; the new head of its holder's notice queue is offered; and a grant
ready at once is handed over behind the CMD_DONE record. -/
def Obligations.RevokeCloses : Prop :=
  ∀ (tag grant : BitVec 16) (gen : BitVec 8) (s : State) (g : GrantNum) (t : Terms), s.CanTake → s.TransmitterEager →
    grant.toNat = g.val → (s.grant g).gen = gen → (s.grant g).body = .live t →
    let u := s.withClosed .revoked [g]
    let v := u.withOffers ((s.holderSlot g).toList.filter (fun sl => u.newHeads.contains sl))
    exec (.revoke tag grant gen) s = .next
      ((v.report 3 tag .ok (refWord g gen)
          (flag 0 ((s.grant g).owes .revoked) ||| flag 1 (u.readyAmong [g] == [g] && decide (s.cq.length < 63)) |||
            number 8 4 (s.grant g).inFlight) 0).withReady (u.readyAmong [g]))

/-- SWEEP closes every LIVE grant of the holder in ascending grant number with cause SWEPT and the notices it owes; those
ready at once are handed over behind the CMD_DONE record, whose results count them; a station number out of range is
refused BAD_FIELD. -/
def Obligations.SweepCloses : Prop :=
  ∀ (tag : BitVec 16) (station : StationNum) (shared : Bool) (s : State), s.CanTake → s.TransmitterEager →
    (shared = false → station = 0 ∨ station = 63 →
      exec (.sweep tag station shared) s = .next (s.report 4 tag .badField 0 0 0)) ∧
    (shared = true ∨ (station ≠ 0 ∧ station ≠ 63) →
      let gs := s.liveOf (if shared then .shared else .station station)
      let u := s.withClosed .swept gs
      let v := u.withOffers
        ((if shared then none else s.findSlot station).toList.filter (fun sl => u.newHeads.contains sl))
      exec (.sweep tag station shared) s = .next
        ((v.report 4 tag .ok (BitVec.ofNat 32 gs.length)
            (BitVec.ofNat 32 (gs.countP (fun g => (s.grant g).owes .swept)))
            (BitVec.ofNat 32 (min (u.readyAmong gs).length (63 - s.cq.length)))).withReady (u.readyAmong gs)))

/-- QUERY_GRANT reports the entry's record in the fields of Table 11-9 and changes nothing; the widths are those that the
ranges of Table 1-1 need. -/
def Obligations.QueryGrantReports : Prop :=
  ∀ (tag grant : BitVec 16) (part : BitVec 2) (s : State), s.CanTake →
    (512 ≤ grant.toNat → exec (.queryGrant tag grant part) s = .next (s.report 5 tag .badRef 0 0 0)) ∧
    (grant.toNat < 512 → part ≠ 0 → part ≠ 1 →
      exec (.queryGrant tag grant part) s = .next (s.report 5 tag .badField 0 0 0)) ∧
    ∀ g : GrantNum, grant.toNat = g.val → part = 0 ∨ part = 1 →
      ∃ w1 w2 w3, exec (.queryGrant tag grant part) s = .next (s.report 5 tag .ok w1 w2 w3) ∧
        bits w1 0 2 = (s.grant g).body.code ∧ bits w1 8 8 = (s.grant g).gen ∧
        (part = 0 → bits w1 16 4 = BitVec.ofNat 4 (s.grant g).inFlight ∧
          ((s.grant g).body.terms? = none → bits w1 20 12 = 0 ∧ w2 = 0 ∧ w3 = 0) ∧
          ∀ t, (s.grant g).body.terms? = some t →
            bits w1 20 6 = t.holder.stationBits ∧ w1.getLsbD 26 = decide (t.holder = .shared) ∧
              bits w1 27 2 = t.rights.code ∧ w2 = BitVec.ofNat 32 t.base ∧ w3 = BitVec.ofNat 32 t.length) ∧
        (part = 1 →
          ((s.grant g).body = .free → bits w1 16 16 = 0 ∧ w2 = 0 ∧ w3 = 0) ∧
          (∀ t, (s.grant g).body.terms? = some t →
            w1.getLsbD 16 = t.remaining.isSome ∧ w1.getLsbD 17 = t.renewAmount.isSome ∧
              bits w1 18 4 = BitVec.ofNat 4 t.credits ∧ w1.getLsbD 22 = t.notify ∧
              bits w2 0 16 = BitVec.ofNat 16 (t.remaining.getD 0) ∧
              bits w2 16 16 = BitVec.ofNat 16 (t.renewAmount.getD 0)) ∧
          (∀ t, (s.grant g).body = .live t → bits w1 23 9 = 0 ∧ w3 = 0) ∧
          ∀ t c, (s.grant g).body = .closing t c →
            bits w1 23 3 = c.cause.code.setWidth 3 ∧ bits w1 26 3 = c.notice.code.setWidth 3 ∧
              w1.getLsbD 29 = c.retireWait ∧
              (∀ tries ticks, c.notice = .awaitAck tries ticks →
                bits w3 0 3 = BitVec.ofNat 3 tries ∧ bits w3 8 4 = BitVec.ofNat 4 ticks) ∧
              ((∀ tries ticks, c.notice ≠ .awaitAck tries ticks) → w3 = 0))

/-- QUERY_LINE counts the LIVE and CLOSING entries whose window contains the line, in index order, and reports the one
behind the number to skip; it changes nothing. -/
def Obligations.QueryLineReports : Prop :=
  ∀ (tag : BitVec 16) (line : Word) (skip : BitVec 16) (s : State), s.CanTake →
    (268435456 ≤ line.toNat ∨ 512 ≤ skip.toNat →
      exec (.queryLine tag line skip) s = .next (s.report 6 tag .badField 0 0 0)) ∧
    (line.toNat < 268435456 → skip.toNat < 512 →
      let covering := s.index.filter (fun g =>
        match (s.grant g).body.terms? with
        | some t => decide (t.base ≤ line.toNat ∧ line.toNat < t.base + t.length)
        | none => false)
      (∀ g, covering[skip.toNat]? = some g →
        exec (.queryLine tag line skip) s = .next
          (s.report 6 tag .ok (BitVec.ofNat 32 covering.length) (refWord g (s.grant g).gen)
            (place 0 (s.grant g).body.code ||| flag 31 true))) ∧
      (covering.length ≤ skip.toNat →
        exec (.queryLine tag line skip) s = .next (s.report 6 tag .ok (BitVec.ofNat 32 covering.length) 0 0)))

/-! ### Host commands: stations, settings and hold -/

/-- ADMIT and BAR change the record that names the station, or create one in the lowest VACANT slot. -/
def Obligations.AdmitAndBarSetRecord : Prop :=
  ∀ (tag : BitVec 16) (n : StationNum) (quota : BitVec 16) (s : State), s.CanTake →
    (n = 0 ∨ n = 63 ∨ n = s.self ∨ 512 < quota.toNat →
      exec (.admitStation tag n quota) s = .next (s.report 7 tag .badField 0 0 0)) ∧
    (n = 0 ∨ n = 63 ∨ n = s.self → exec (.bar tag n) s = .next (s.report 8 tag .badField 0 0 0)) ∧
    (n ≠ 0 → n ≠ 63 → n ≠ s.self → quota.toNat ≤ 512 →
      (∀ sl r, s.findSlot n = some sl → (s.slot sl).record = some r →
        exec (.admitStation tag n quota) s = .next
          ((s.withRecord sl (some { r with barred := false, quota := quota.toNat })).report 7 tag .ok
            (number 0 4 sl.val ||| place 8 (if r.barred then 2 else 1 : BitVec 2)) 0 0) ∧
        exec (.bar tag n) s = .next
          ((s.withRecord sl (some { r with barred := true })).report 8 tag .ok
            (number 0 4 sl.val ||| place 8 (if r.barred then 2 else 1 : BitVec 2)) 0 0)) ∧
      (∀ sl, s.findSlot n = none → (s.slot sl).record = none → (∀ k < sl, (s.slot k).record ≠ none) →
        exec (.admitStation tag n quota) s = .next
          ((s.withRecord sl (some
            { barred := false, number := n, quota := quota.toNat, held := 0, session := none, pending := none
              cache := none, admittedWaiting := false, restartWaiting := none })).report 7 tag .ok
            (number 0 4 sl.val ||| flag 4 true) 0 0) ∧
        exec (.bar tag n) s = .next
          ((s.withRecord sl (some
            { barred := true, number := n, quota := 0, held := 0, session := none, pending := none
              cache := none, admittedWaiting := false, restartWaiting := none })).report 8 tag .ok
            (number 0 4 sl.val ||| flag 4 true) 0 0)) ∧
      (s.findSlot n = none → (∀ k, (s.slot k).record ≠ none) →
        exec (.admitStation tag n quota) s = .next (s.report 7 tag .stationFull 0 0 0) ∧
        exec (.bar tag n) s = .next (s.report 8 tag .stationFull 0 0 0)))

/-- FORGET makes the station's record VACANT, unless the station still holds grants or has a pending request. -/
def Obligations.ForgetVacatesSlot : Prop :=
  ∀ (tag : BitVec 16) (n : StationNum) (s : State), s.CanTake →
    (n = 0 ∨ n = 63 → exec (.forget tag n) s = .next (s.report 9 tag .badField 0 0 0)) ∧
    (n ≠ 0 → n ≠ 63 → s.findSlot n = none → exec (.forget tag n) s = .next (s.report 9 tag .noStation 0 0 0)) ∧
    ∀ sl r, n ≠ 0 → n ≠ 63 → s.findSlot n = some sl → (s.slot sl).record = some r →
      (0 < r.held ∨ r.pending ≠ none →
        exec (.forget tag n) s = .next
          (s.report 9 tag .holdsGrants
            (number 0 4 sl.val ||| flag 12 r.pending.isSome ||| number 13 3 ((r.pending.map Fin.val).getD 0))
            (BitVec.ofNat 32 r.held) 0)) ∧
      (r.held = 0 → r.pending = none →
        exec (.forget tag n) s = .next ((s.withRecord sl none).report 9 tag .ok (number 0 4 sl.val) 0 0))

/-- QUERY_STATION reports the station's record in the fields of Table 11-9 and changes nothing. -/
def Obligations.QueryStationReports : Prop :=
  ∀ (tag : BitVec 16) (n : StationNum) (part : BitVec 2) (s : State), s.CanTake →
    (n = 0 ∨ n = 63 ∨ (part ≠ 0 ∧ part ≠ 1) →
      exec (.queryStation tag n part) s = .next (s.report 10 tag .badField 0 0 0)) ∧
    (n ≠ 0 → n ≠ 63 → part = 0 ∨ part = 1 → s.findSlot n = none →
      exec (.queryStation tag n part) s = .next (s.report 10 tag .noStation 0 0 0)) ∧
    ∀ sl r, n ≠ 0 → n ≠ 63 → part = 0 ∨ part = 1 → s.findSlot n = some sl → (s.slot sl).record = some r →
      ∃ w1 w2 w3, exec (.queryStation tag n part) s = .next (s.report 10 tag .ok w1 w2 w3) ∧
        bits w1 0 4 = BitVec.ofNat 4 sl.val ∧ bits w1 4 2 = (if r.barred then 2 else 1) ∧
        (part = 0 →
          bits w1 8 8 = (r.session.map (fun e => e.last)).getD 0 ∧ w1.getLsbD 16 = r.session.isSome ∧
          bits w1 17 3 = BitVec.ofNat 3 ((r.pending.map Fin.val).getD 0) ∧ w1.getLsbD 20 = r.pending.isSome ∧
          bits w1 22 10 = BitVec.ofNat 10 r.quota ∧ bits w2 0 16 = (r.session.map (fun e => e.epoch)).getD 0 ∧
          bits w2 16 10 = BitVec.ofNat 10 r.held ∧
          (r.cache = none → bits w2 26 6 = 0 ∧ w3 = 0) ∧
          ∀ c, r.cache = some c →
            bits w2 26 5 = c.status.code.setWidth 5 ∧ bits w3 0 3 = c.kind.code.setWidth 3 ∧ bits w3 3 8 = c.seq ∧
              bits w3 11 20 = c.value.setWidth 20) ∧
        (part = 1 →
          w1.getLsbD 8 = r.admittedWaiting ∧ w1.getLsbD 9 = r.restartWaiting.isSome ∧
          (r.restartWaiting = none → bits w1 16 8 = 0 ∧ w2 = 0 ∧ w3 = 0) ∧
          ∀ w, r.restartWaiting = some w →
            bits w1 16 8 = BitVec.ofNat 8 w.merged ∧ w2 = w.epoch.setWidth 32 ∧ w3 = BitVec.ofNat 32 w.swept)

/-- SET_LIMITS replaces the settings given, with BAD_FIELD for a value out of range and IN_USE for a MEM_TOP below the
highest window end; its results are the settings in force and that end. -/
def Obligations.SetLimitsSetsLimits : Prop :=
  ∀ (tag : BitVec 16) (f : LimitsFields) (s : State) (highest : Nat), s.CanTake →
    (∀ g ∈ s.index, ∀ t, (s.grant g).body.terms? = some t → t.base + t.length ≤ highest) →
    ((s.index = [] ∧ highest = 0) ∨
      ∃ g ∈ s.index, ∃ t, (s.grant g).body.terms? = some t ∧ t.base + t.length = highest) →
    let bad : Prop := (f.keepMemTop = false ∧ 268435456 < f.memTop.toNat) ∨
      (f.keepPolicy = false ∧ 1 < f.policy.toNat) ∨ (f.keepQuota = false ∧ 512 < f.quota.toNat)
    let memTop := if f.keepMemTop then s.memTop else f.memTop.toNat
    let policy := if f.keepPolicy then s.policy else if f.policy = 0 then .closed else .opened
    let quota := if f.keepQuota then s.defaultQuota else f.quota.toNat
    (bad → exec (.setLimits tag f) s = .next (s.report 11 tag .badField 0 0 0)) ∧
    (¬ bad → f.keepMemTop = false → f.memTop.toNat < highest →
      exec (.setLimits tag f) s = .next (s.report 11 tag .inUse (BitVec.ofNat 32 highest) 0 0)) ∧
    (¬ bad → f.keepMemTop = true ∨ highest ≤ f.memTop.toNat →
      exec (.setLimits tag f) s = .next
        (({ s with memTop := memTop, policy := policy, defaultQuota := quota } : State).report 11 tag .ok
          (BitVec.ofNat 32 memTop) (place 0 policy.code ||| number 16 10 quota) (BitVec.ofNat 32 highest)))

/-- SET_TIMING replaces the settings given, with BAD_FIELD for a value out of range; a tick period that differs from the
one in force restarts the tick phase. -/
def Obligations.SetTimingSetsTiming : Prop :=
  ∀ (tag : BitVec 16) (f : TimingFields) (s : State), s.CanTake →
    let bad : Prop := (f.keepPeriod = false ∧ 3 < f.period.toNat) ∨ (f.keepInterval = false ∧ f.interval = 0) ∨
      (f.keepTries = false ∧ f.tries = 0)
    (bad → exec (.setTiming tag f) s = .next (s.report 12 tag .badField 0 0 0)) ∧
    (¬ bad → ∃ period : TickPeriod,
      (f.keepPeriod = true → period = s.tickPeriod) ∧ (f.keepPeriod = false → period.code = f.period) ∧
      let interval := if f.keepInterval then s.noticeInterval else f.interval.toNat
      let tries := if f.keepTries then s.noticeTries else f.tries.toNat
      exec (.setTiming tag f) s = .next
        (({ s with
          tickPeriod := period
          noticeInterval := interval
          noticeTries := tries
          tickPhase := if period = s.tickPeriod then s.tickPhase else 0 } : State).report 12 tag .ok
            (place 0 period.code ||| number 8 4 interval ||| number 16 3 tries) 0 0))

/-- HOLD in RUNNING takes the freeze flag and enters HELD if every context is IDLE, DRAINING otherwise; in DRAINING and
HELD it is refused ALREADY_HELD. RESUME ends a hold: RUNNING with the freeze state off, the state left in its results, and
no HOLD_REACHED; in RUNNING it is refused NOT_HELD. A command code that is none of the fourteen is answered BAD_COMMAND, its
code and tag echoed. -/
def Obligations.HoldResumeAndBadCommand : Prop :=
  ∀ (tag : BitVec 16) (freeze : Bool) (s : State), s.CanTake →
    (s.hold = .running →
      let entered : HoldState := if ∀ c : CtxNum, (s.ctx c).state = .idle then .held else .draining
      exec (.hold tag freeze) s = .next
        (({ s with hold := entered, freeze := freeze } : State).report 13 tag .ok (place 0 entered.code)
          (BitVec.ofNat 32 ((List.finRange 8).countP (fun c => (s.ctx c).state != CtxState.idle))) 0)) ∧
    (s.hold ≠ .running →
      exec (.hold tag freeze) s = .next (s.report 13 tag .alreadyHeld (place 0 s.hold.code) 0 0)) ∧
    (s.hold ≠ .running →
      exec (.resume tag) s = .next
        (({ s with hold := .running, freeze := false } : State).report 14 tag .ok (place 0 s.hold.code) 0 0)) ∧
    (s.hold = .running → exec (.resume tag) s = .next (s.report 14 tag .notHeld 0 0 0)) ∧
    ∀ code : BitVec 4, WellFormed (.badCommand tag code) = true →
      exec (.badCommand tag code) s = .next (s.report code tag .badCommand 0 0 0)

/-! ### Frames -/

/-- A frame whose bytes fail one of the four tests of the receive filter is discarded without effect; in a link state
other than UP no frame is received at all. The bit order of the CRC is PRESUMED (log 6). The end of the reception of a
discarded frame leaves no frame under reception (log 17). -/
def Obligations.FilterDiscardsFrames : Prop :=
  ∀ (bytes : List Byte) (s : State), s.inReset = false →
    (s.link ≠ .up → exec (.filteredFrame bytes) s = .next s) ∧
    (s.link = .up →
      bytes.length < 20 ∨ (bytes.length - 20) % 64 ≠ 0 ∨ 1044 < bytes.length ∨
        (bytes.length - 20) / 64 ≠ (bytes.getD 4 0).toNat ∨
        bytes.drop (bytes.length - 4) ≠ bytesLE 4 (crc32 (bytes.take (bytes.length - 4))) ∨
        (bytes.getD 1 0).extractLsb' 0 6 ≠ s.self ∨ (bytes.getD 1 0).extractLsb' 0 6 = (0 : StationNum) ∨
        (bytes.getD 1 0).extractLsb' 0 6 = (63 : StationNum) ∨ (bytes.getD 2 0).extractLsb' 0 6 = s.self ∨
        (bytes.getD 2 0).extractLsb' 0 6 = (0 : StationNum) ∨ (bytes.getD 2 0).extractLsb' 0 6 = (63 : StationNum) →
      exec (.filteredFrame bytes) s = .next s.received)

/-- FRAMES ROUND TRIP: the bytes of every request frame, laid out and sealed with their CRC, pass the filter and decode to
that frame with every field, so that FILTERED_FRAME of them does what the frame's own row does. The order of a line's
bytes (log 13) and the CRC's bit order (log 6) are the model's. -/
def Obligations.FrameBytesRoundTrip : Prop :=
  ∀ (c : Instr) (a : Arrival) (s : State), WellFormed c = true → arrivalOfRow c = some a → s.CanReceive a.src →
    s.selfValid = true →
    receive s.self (a.bytes s.self) = some a ∧
      ∃ t, exec (.filteredFrame (a.bytes s.self)) s = .next t ∧ exec c s = .next t

/-- The answers of steps 1, 2, 4, 5 and 7 of the check order: an immediate reply and no other change. -/
def Obligations.RefusedBeforeSequence : Prop :=
  ∀ (src : StationNum) (s : State), s.CanReceive src →
    (∀ seq kind, kind.toNat = 0 ∨ 7 < kind.toNat →
      exec (.unknownKindFrame src seq kind) s = .next (s.received.withReply (bareReply s src kind seq .badKind 0))) ∧
    (s.findSlot src = none → ∀ seq grant gen,
      exec (.noticeAck src seq grant gen) s = .next
        (s.received.withReply
          { bareReply s src 7 seq .unknownStation 0 with grant := grant, gen := gen })) ∧
    (s.findSlot src = none → ∀ seq epoch start,
      (s.policy = .closed ∨ s.hold ≠ .running →
        exec (.hello src seq epoch start) s = .next
          (s.received.withReply (bareReply s src 1 seq .unknownStation 0))) ∧
      (s.policy = .opened → s.hold = .running → (∀ k, (s.slot k).record ≠ none) →
        exec (.hello src seq epoch start) s = .next
          (s.received.withReply (bareReply s src 1 seq .stationFull 0)))) ∧
    (∀ sl x, s.findSlot src = some sl → (s.slot sl).record = some x → ∀ seq epoch start,
      (x.barred = true →
        exec (.hello src seq epoch start) s = .next (s.received.withReply (bareReply s src 1 seq .barred 0))) ∧
      (x.barred = false → s.hold ≠ .running →
        exec (.hello src seq epoch start) s = .next (s.received.withReply (bareReply s src 1 seq .held 0)))) ∧
    ∀ (c : Instr) (r : Request), requestOfRow c = some r → r.src = src →
      (s.findSlot src = none → exec c s = .next (s.received.withReply (r.reply s .unknownStation 0 false))) ∧
      ∀ sl x, s.findSlot src = some sl → (s.slot sl).record = some x →
        (x.barred = true → exec c s = .next (s.received.withReply (r.reply s .barred 0 false))) ∧
        (x.barred = false → s.hold ≠ .running →
          exec c s = .next (s.received.withReply (r.reply s .held 0 false))) ∧
        (x.barred = false → s.hold = .running → x.session = none →
          exec c s = .next (s.received.withReply (r.reply s .notSynced 0 false)))

/-- The sequence rule's own answers: discard, OUT_OF_ORDER, replay from the cache and BUSY, none of which changes the
station record or the grant table. -/
def Obligations.SequenceRuleAnswers : Prop :=
  ∀ (c : Instr) (r : Request) (s : State) (sl : SlotNum) (x : Station) (e : Session), requestOfRow c = some r →
    s.Serves r.src sl x e →
    (r.seq = e.last → x.pending ≠ none → exec c s = .next s.received) ∧
    (r.seq = e.last → x.pending = none → (∀ k, x.cache = some k → k.kind ≠ r.kind) →
      exec c s = .next (s.received.withReply (r.reply s .outOfOrder 0 false))) ∧
    (∀ k, r.seq = e.last → x.pending = none → x.cache = some k → k.kind = r.kind →
      r.kind = .write ∨ r.kind = .renew ∨ r.kind = .returnGrant →
      exec c s = .next (s.received.withReply (r.reply s k.status k.value true))) ∧
    (r.seq = e.last + 1 → x.pending ≠ none →
      exec c s = .next (s.received.withReply (r.reply s .busy 0 false))) ∧
    (r.seq ≠ e.last → r.seq ≠ e.last + 1 →
      exec c s = .next (s.received.withReply (r.reply s .outOfOrder 0 false)))

/-- Steps 9 to 14 for a request that passes the sequence rule: the first test that fails gives a definitive answer, which
is recorded; a READ or WRITE that passes them while no context is IDLE is answered BUSY, which is not. -/
def Obligations.RequestRefusedByFirstFailingCheck : Prop :=
  ∀ (c : Instr) (r : Request) (s : State) (sl : SlotNum) (x : Station) (e : Session) (replayed : Bool),
    requestOfRow c = some r → s.Serves r.src sl x e → PassesSequence x e r replayed →
    (∀ status, firstFailure (s.requestChecks r) = some status →
      exec c s = .next ((s.received.withOutcome sl r status 0).withReply (r.reply s status 0 replayed))) ∧
    (firstFailure (s.requestChecks r) = none → r.kind = .read ∨ r.kind = .write →
      (∀ k : CtxNum, (s.ctx k).state ≠ .idle) →
      exec c s = .next (s.received.withReply (r.reply s .busy 0 replayed)))

/-- A READ or WRITE that passes every test is bound to the lowest-numbered IDLE context: the context takes its fields, the
grant's in-flight count rises, the record's last accepted and pending mark are set, and a free port is given to it. -/
def Obligations.TransferBinds : Prop :=
  ∀ (c : Instr) (r : Request) (s : State) (sl : SlotNum) (x : Station) (e : Session) (replayed : Bool) (g : GrantNum)
    (t : Terms) (k : CtxNum),
    requestOfRow c = some r → r.kind = .read ∨ r.kind = .write → s.Serves r.src sl x e → PassesSequence x e r replayed →
    firstFailure (s.requestChecks r) = none → s.ReachesLive r g t → (s.ctx k).state = .idle →
    (∀ j < k, (s.ctx j).state ≠ .idle) → s.PortEager →
    ∃ buffer : Vector Line 16,
      (r.kind = .read → buffer = (s.ctx k).buffer) ∧
      (r.kind = .write → ∀ i (h : i < 16), buffer[i] = (r.payload[i]?).getD ((s.ctx k).buffer[i])) ∧
      let bound : Ctx :=
        { state := if r.kind = .read then .readMem else .writeMem, slot := sl, seq := r.seq
          write := decide (r.kind = .write), grant := g, gen := r.gen, first := t.base + r.offset.toNat
          count := r.count.toNat, issued := if s.port = .free then 1 else 0, done := 0, fault := false
          replayed := replayed, orphaned := false, buffer := buffer }
      exec c s = .next
        ((({ s.received with
          ctxs := s.ctxs.set k.val bound k.isLt
          port :=
            if s.port = .free then
              .busy (some k)
                (if r.kind = .read then .read (t.base + r.offset.toNat)
                  else .write (t.base + r.offset.toNat) buffer[0])
            else s.port
          lastServed := if s.port = .free then k else s.lastServed } : State).withGrant g
            { s.grant g with inFlight := (s.grant g).inFlight + 1 }).withRecord sl
              (some { x with session := some { e with last := r.seq }, pending := some k }))

/-- RENEW raises the remaining lifetime by the renew amount, up to 65,535, and spends a credit; PROBE reports the grant and
changes none of it; RETURN by the holder closes the grant with cause RETURNED and no notice and hands it over if it is
ready. All three answers are recorded and offered. -/
def Obligations.RenewProbeReturnAnswered : Prop :=
  ∀ (c : Instr) (r : Request) (s : State) (sl : SlotNum) (x : Station) (e : Session) (replayed : Bool) (g : GrantNum)
    (t : Terms),
    requestOfRow c = some r → s.Serves r.src sl x e → PassesSequence x e r replayed →
    firstFailure (s.requestChecks r) = none → s.ReachesLive r g t →
    (∀ n amount, r.kind = .renew → t.remaining = some n → t.renewAmount = some amount →
      exec c s = .next
        (((s.received.withGrant g
            { s.grant g with
              body := .live { t with remaining := some (min (n + amount) 65535), credits := t.credits - 1 } }).withOutcome
          sl r .ok (BitVec.ofNat 32 (min (n + amount) 65535))).withReply
            (r.reply s .ok (BitVec.ofNat 32 (min (n + amount) 65535)) replayed))) ∧
    (r.kind = .probe →
      let value := number 0 16 (t.remaining.getD 0) ||| place 16 t.rights.code ||| place 18 (1 : BitVec 2)
      exec c s = .next
        ((s.received.withOutcome sl r .ok value).withReply (r.reply s .ok value replayed))) ∧
    (r.kind = .returnGrant →
      let u := s.received.withClosed .returned [g]
      exec c s = .next
        (((u.withReady (u.readyAmong [g])).withOutcome sl r .ok 0).withReply (r.reply s .ok 0 replayed)))

/-- A HELLO with the recorded epoch resynchronises its station and does no more: last accepted, cache and pending mark,
the orphaning of a pending memory phase, and the answer OK with value 0. -/
def Obligations.HelloResynchronises : Prop :=
  ∀ (src : StationNum) (seq : Byte) (epoch : BitVec 16) (start : Byte) (s : State) (sl : SlotNum) (x : Station)
    (e : Session), s.Serves src sl x e → e.epoch = epoch →
    exec (.hello src seq epoch start) s = .next
      ((({ s.received with
        ctxs := Vector.ofFn (fun c : CtxNum =>
          if x.pending = some c ∧ (s.ctx c).inMemoryPhase = true then { s.ctx c with orphaned := true }
          else s.ctx c) } : State).withRecord sl
            (some { x with session := some { epoch := epoch, last := start }, cache := none, pending := none })).withReply
              (bareReply s src 1 seq .ok 0))

/-- A HELLO that finds no epoch, or another one, restarts its station: beside the resynchronisation its LIVE grants close
as RESTARTED, its open notices are ABANDONED, STATION_RESTARTED is handed over and then the grants found ready, and the
answer carries the number of grants closed. -/
def Obligations.HelloRestarts : Prop :=
  ∀ (src : StationNum) (seq : Byte) (epoch : BitVec 16) (start : Byte) (s : State) (sl : SlotNum) (x : Station),
    s.CanReceive src → s.findSlot src = some sl → (s.slot sl).record = some x → x.barred = false → s.hold = .running →
    (∀ e, x.session = some e → e.epoch ≠ epoch) → s.OffersSound →
    let live := s.liveOf (.station src)
    let abandoned := s.openNotices src
    let u := ((((({ s.received with
        ctxs := Vector.ofFn (fun c : CtxNum =>
          if x.pending = some c ∧ (s.ctx c).inMemoryPhase = true then { s.ctx c with orphaned := true }
          else s.ctx c) } : State).withRecord sl
            (some { x with session := some { epoch := epoch, last := start }, cache := none, pending := none })).withClosed
              .restarted live).withNoticesEnded sl abandoned .abandoned []).withRestarted sl x epoch live.length)
    exec (.hello src seq epoch start) s = .next
      ((u.withReady (u.readyAmong
          ((List.finRange 512).filter (fun g => live.contains g || abandoned.contains g)))).withReply
        (bareReply s src 1 seq .ok (BitVec.ofNat 32 live.length)))

/-- A HELLO from an unknown station under policy OPEN admits it into the lowest VACANT slot: STATION_ADMITTED and then
STATION_RESTARTED are handed over, and the answer is OK with value 0. -/
def Obligations.HelloAdmits : Prop :=
  ∀ (src : StationNum) (seq : Byte) (epoch : BitVec 16) (start : Byte) (s : State) (sl : SlotNum),
    s.CanReceive src → s.findSlot src = none → s.policy = .opened → s.hold = .running →
    (∀ g, (s.grant g).body.holder? ≠ some (.station src)) →
    (s.slot sl) = { record := none, queue := [], frame := .none } → (∀ k < sl, (s.slot k).record ≠ none) →
    let events : List (Event × Completion) :=
      [(.admitted sl, .admitted src sl), (.restarted sl, .restarted src epoch 0 1)]
    let n := s.room 2
    exec (.hello src seq epoch start) s = .next
      ((({ s.received with
        cq := s.cq ++ (events.take n).map (fun p => p.2)
        backlog := s.backlog ++ (events.drop n).map (fun p => p.1)
        alerts := { s.alerts with backlog := s.alerts.backlog || decide (n < 2) } } : State).withRecord sl
          (some
            { barred := false, number := src, quota := s.defaultQuota, held := 0
              session := some { epoch := epoch, last := start }, pending := none, cache := none
              admittedWaiting := decide (n < 1)
              restartWaiting := if n < 2 then some { epoch := epoch, swept := 0, merged := 1 } else none })).withReply
            (bareReply s src 1 seq .ok 0))

/-- A NOTICE_ACK that matches the head of its source's queue ends that notice ACKED: the head leaves, its frame is
withdrawn or detached, the next head is offered, and the grant is handed over if ready. One that matches nothing is
ignored. No reply is built, in any hold state and for a BARRED station too. -/
def Obligations.NoticeAckEndsNotice : Prop :=
  ∀ (src : StationNum) (seq : Byte) (grant : BitVec 16) (gen : Byte) (s : State) (sl : SlotNum), s.CanReceive src →
    s.findSlot src = some sl →
    (((s.slot sl).queue = [] ∨ ∃ g rest, (s.slot sl).queue = g :: rest ∧ ¬ (g.val = grant.toNat ∧ (s.grant g).gen = gen)) →
      exec (.noticeAck src seq grant gen) s = .next s.received) ∧
    ∀ g rest t c, (s.slot sl).queue = g :: rest → g.val = grant.toNat → (s.grant g).gen = gen →
      (s.grant g).body = .closing t c → s.OffersSound → s.TransmitterEager →
      let u := s.received.withNoticesEnded sl [g] .acked rest
      let v := u.withOffers (u.newHeads.filter (fun k => k == sl))
      exec (.noticeAck src seq grant gen) s = .next (v.withReady (u.readyAmong [g]))

/-! ### Ticks and notices -/

/-- A tick: unless freeze is on, every timed LIVE lifetime is lowered and those that reach 0 expire; then the intervals of
the waiting notice heads are counted, those out of tries end UNACKED; then the frames due, of new heads and resends, are
offered in ascending slot number. The count's stop at the interval is DEDUCED (log 10), and so is the place of the offers
behind the endings (log 23). -/
def Obligations.TickCounts : Prop :=
  ∀ s : State, s.inReset = false → s.TransmitterEager → s.StationsDistinct → s.NoticeQueuesSound →
    let s1 := { s with tickPhase := 0 }
    let s2 := if s.freeze then s1 else s1.withCountdown.withExpired s1.withCountdown.expired
    let s3 := s2.withIntervals
    let s4 := s3.withUnacked (s3.expiredHeads (fun tries => decide (s.noticeTries ≤ tries)))
    let resends := s4.expiredHeads (fun tries => decide (tries < s.noticeTries))
    exec .tick s = .next
      (s4.withOffers ((List.finRange 16).filter (fun sl => s4.newHeads.contains sl || resends.contains sl)))

/-- The two parts of a tick that have rows of their own: the expiry of the grants with remaining lifetime 0, and the expiry
of one head's interval, which comes at a counted tick only and so at no moment at which the tick phase is not at the tick
period. That these rows act where their condition stands (log 4), and do nothing where it does not (log 5), is the model's
choice. -/
def Obligations.ExpiryRowsAct : Prop :=
  ∀ s : State, s.inReset = false → s.TransmitterEager →
    (exec .grantExpiry s = .next
      (let u := s.withExpired s.expired
       u.withOffers u.newHeads)) ∧
    ∀ sl : SlotNum,
      (s.countedHead sl = none ∨ s.tickPhase ≠ s.tickPeriod.micros → exec (.noticeIntervalExpiry sl) s = .next s) ∧
      ∀ g tries ticks, s.tickPhase = s.tickPeriod.micros → s.countedHead sl = some (g, tries, ticks) →
        (ticks < s.noticeInterval → exec (.noticeIntervalExpiry sl) s = .next s) ∧
        (s.noticeInterval ≤ ticks → tries < s.noticeTries →
          exec (.noticeIntervalExpiry sl) s = .next (s.withOffers [sl])) ∧
        (s.noticeInterval ≤ ticks → s.noticeTries ≤ tries → s.NoticeQueuesSound →
          exec (.noticeIntervalExpiry sl) s = .next
            (let u := s.withUnacked [sl]
             u.withOffers (u.newHeads.filter (fun k => k == sl))))

/-- A new head's frame is offered, with the fields its grant gives it. That the row acts where its condition stands (log 4)
and leaves alone a head that is not new or has a frame under way (log 5) is the model's choice. -/
def Obligations.NoticeOfferBuildsFrame : Prop :=
  ∀ (s : State) (sl : SlotNum), s.inReset = false → s.TransmitterEager →
    (sl ∉ s.newHeads → exec (.noticeOffer sl) s = .next s) ∧
    ∀ g rest t c, (s.slot sl).queue = g :: rest → (s.grant g).body = .closing t c → c.notice = .queued →
      s.link = .up → (s.slot sl).frame = .none →
      let f : NoticeFrame :=
        { dest := t.holder.stationBits, src := s.self, grant := g, gen := (s.grant g).gen, cause := c.cause, tryNo := 1 }
      (s.tx = .free →
        exec (.noticeOffer sl) s = .next
          { s with
            slots := s.slots.set sl.val { s.slot sl with frame := .sending } sl.isLt
            tx := .notice (some sl) f }) ∧
      (s.tx ≠ .free →
        exec (.noticeOffer sl) s = .next
          { s with
            slots := s.slots.set sl.val { s.slot sl with frame := .offered f } sl.isLt
            offers := s.offers ++ [sl] })

/-- The transmitter chooses: sending or not UP, it takes nothing (log 5); free in UP it takes the head of the reply queue, else the
first slot of the offer list, which leaves the list and is SENDING, else nothing. An immediate reply whose transmission
completes leaves the queue, its count falls, and the transmitter chooses again; a detached notice frame's completion changes
no record. -/
def Obligations.TransmitterChoosesAndCompletes : Prop :=
  ∀ s : State, s.inReset = false →
    (s.link ≠ .up ∨ s.tx ≠ .free ∨ (s.replyQ = [] ∧ s.offers = []) → exec .transmitStart s = .next s) ∧
    (s.link = .up → s.tx = .free → s.replyQ ≠ [] → exec .transmitStart s = .next { s with tx := .reply }) ∧
    (∀ sl rest f, s.link = .up → s.tx = .free → s.replyQ = [] → s.offers = sl :: rest → (s.slot sl).frame = .offered f →
      exec .transmitStart s = .next
        { s with
          slots := s.slots.set sl.val { s.slot sl with frame := .sending } sl.isLt
          offers := rest
          tx := .notice (some sl) f }) ∧
    (∀ f rest, s.tx = .reply → s.replyQ = { origin := .immediate, frame := f } :: rest →
      ∃ t, exec .immediateReplySent s = .next t ∧
        exec .transmitStart { s with tx := .free, replyQ := rest, immCount := s.immCount - 1 } = .next t) ∧
    ∀ f, s.tx = .notice none f →
      ∃ t, exec .detachedNoticeSent s = .next t ∧ exec .transmitStart { s with tx := .free } = .next t

/-- A context reply's transmission completes: the context enters IDLE, the pending mark in its station slot is none if it
named the context and as it was otherwise, Hold Control tests a drain, and the transmitter chooses again. -/
def Obligations.ContextReplySentFreesContext : Prop :=
  ∀ (s : State) (c : CtxNum) (f : Reply) (rest : List QueuedReply), s.inReset = false → s.tx = .reply →
    s.replyQ = { origin := .context c, frame := f } :: rest →
    ∃ t, exec .contextReplySent s = .next t ∧
      exec .transmitStart (({ s with tx := .free, replyQ := rest } : State).withContextIdle c).withDrainTest = .next t

/-- A slot taken from the offer list leaves it and is SENDING; when its frame's transmission completes the head is in
AWAIT_ACK with one more try and no ticks counted, its frame state is NONE, and the transmitter chooses again; a
transmission cut off by the link's leaving UP changes no grant record. -/
def Obligations.NoticeSentAwaitsAck : Prop :=
  ∀ s : State, s.inReset = false →
    (∀ sl rest f, s.link = .up → s.tx = .free → s.replyQ = [] → s.offers = sl :: rest → (s.slot sl).frame = .offered f →
      ∃ t, exec .transmitStart s = .next t ∧ t.offers = rest ∧ (t.slot sl).frame = .sending) ∧
    (∀ sl f g rest t c n, s.tx = .notice (some sl) f → (s.slot sl).queue = g :: rest → (s.grant g).body = .closing t c →
      (c.notice = .queued ∧ n = 1) ∨ (∃ tries ticks, c.notice = .awaitAck tries ticks ∧ n = tries + 1) →
      ∃ u, exec .noticeSent s = .next u ∧
        exec .transmitStart
          { s.withGrant g { s.grant g with body := .closing t { c with notice := .awaitAck n 0 } } with
            slots := s.slots.set sl.val { s.slot sl with frame := .none } sl.isLt
            tx := .free } = .next u) ∧
    (s.link = .up → ∃ t, exec .syncLost s = .next t ∧ t.grants = s.grants)

/-! ### The node bus -/

/-- The arbiter gives a free port to the next context in rotating order that has a line left, which starts its next line
operation; without one, or with the port busy, nothing starts (log 5). A line operation that ends done before the context's last
line: lines done rises, a line read fills its buffer position, an accepted line write has written its line, and the free
port is given on. A detached operation's end frees the port and writes what was accepted; no context takes its result, and
it latches no alert. The lines written are the model's record of them (log 12). -/
def Obligations.LineOperationsStartAndEnd : Prop :=
  ∀ s : State, s.inReset = false →
    (s.port ≠ .free ∨ (∀ c : CtxNum, (s.ctx c).lineLeft = false) → exec .lineOperationStart s = .next s) ∧
    (∀ j : CtxNum, s.port = .free → (s.ctx (s.lastServed + 1 + j)).lineLeft = true →
      (∀ i < j, (s.ctx (s.lastServed + 1 + i)).lineLeft = false) →
      let c := s.lastServed + 1 + j
      let x := s.ctx c
      exec .lineOperationStart s = .next
        { s with
          ctxs := s.ctxs.set c.val { x with issued := x.issued + 1 } c.isLt
          lastServed := c
          port := .busy (some c)
            (if x.state = .readMem then .read (x.first + x.issued)
              else .write (x.first + x.issued) (x.buffer[x.issued]?.getD 0)) }) ∧
    ∀ (op : LineOp) (data : Line), s.TransmitterEager →
      let written (res : LineResult) : List (Nat × Line) :=
        match op, res with
        | .write a l, .done _ => nodeWrite a l s.nodeMem
        | _, _ => s.nodeMem
      (∀ c : CtxNum, s.port = .busy (some c) op → (s.ctx c).inMemoryPhase = true →
        (s.ctx c).done + 1 ≠ (s.ctx c).count →
        ∃ t, exec (.lineDone data) s = .next t ∧
          exec .lineOperationStart
            { s with
              port := .free
              nodeMem := written (.done data)
              ctxs := s.ctxs.set c.val
                { s.ctx c with
                  done := (s.ctx c).done + 1
                  buffer :=
                    if (s.ctx c).state = .readMem then (s.ctx c).buffer.setIfInBounds (s.ctx c).done data
                    else (s.ctx c).buffer } c.isLt } = .next t) ∧
      (s.port = .busy none op → ∀ res : LineResult,
        ∃ t, exec (.detachedLineEnd res) s = .next t ∧
          exec .lineOperationStart { s with port := .free, nodeMem := written res } = .next t)

/-- A memory phase ends, at its last line or at a bus fault, which latches BUS_FAULT: the grant's in-flight count falls and
a CLOSING grant then ready is handed over; an orphaned context goes to IDLE, whether or not its slot still has a record;
otherwise the reply cache is set, and with the
link UP the context waits in REPLY_WAIT with its reply at the tail of the reply queue, or with the link not UP goes to IDLE
with its pending mark cleared. Then the port is given on and the transmitter chooses. The lines written are the model's
record of them (log 12). -/
def Obligations.MemoryPhaseEnds : Prop :=
  ∀ (s : State) (op : LineOp) (data : Line) (c : CtxNum) (r : Station) (fault : Bool), s.inReset = false →
    s.port = .busy (some c) op → (s.ctx c).inMemoryPhase = true → ((s.ctx c).orphaned = false → (s.slot (s.ctx c).slot).record = some r) →
    (fault = false → (s.ctx c).done + 1 = (s.ctx c).count ∧ (s.ctx c).fault = false) →
    let x : Ctx :=
      if fault then { s.ctx c with fault := true }
      else
        { s.ctx c with
          done := (s.ctx c).done + 1
          buffer :=
            if (s.ctx c).state = .readMem then (s.ctx c).buffer.setIfInBounds (s.ctx c).done data
            else (s.ctx c).buffer }
    let status : ReplyStatus := if fault then .memFault else .ok
    let value : Word := BitVec.ofNat 32 (if fault then x.done else x.count)
    let kind : ReqKind := if x.write then .write else .read
    let u : State :=
      ({ s with
        port := .free
        nodeMem := match op, fault with
          | .write a l, false => nodeWrite a l s.nodeMem
          | _, _ => s.nodeMem
        alerts := { s.alerts with busFault := s.alerts.busFault || fault } } : State).withGrant x.grant
          { s.grant x.grant with inFlight := (s.grant x.grant).inFlight - 1 }
    let v := u.withReady (u.readyAmong [x.grant])
    let cached := v.withRecord x.slot ((v.slot x.slot).record.map (fun y =>
      { y with cache := some { kind := kind, seq := x.seq, status := status, value := value } }))
    let ended : State :=
      if x.orphaned then ({ v with ctxs := s.ctxs.set c.val { x with state := .idle } c.isLt } : State).withDrainTest
      else if s.link = .up then
        { cached with
          ctxs := s.ctxs.set c.val { x with state := .replyWait } c.isLt
          replyQ := s.replyQ ++
            [{ origin := .context c
               frame :=
                 { dest := r.number, src := s.self, seq := x.seq, grant := BitVec.ofNat 16 x.grant.val, gen := x.gen
                   replayed := x.replayed, kind := kind.code, status := status, value := value
                   data := if kind = .read ∧ fault = false then x.buffer.toList.take x.count else [] } }] }
      else (({ cached with ctxs := s.ctxs.set c.val x c.isLt } : State).withContextIdle c).withDrainTest
    ∃ given t, exec .lineOperationStart ended = .next given ∧ exec .transmitStart given = .next t ∧
      (if fault then exec .lineBusFault s else exec (.lineDone data) s) = .next t

/-- The part writes node memory only where a line write that it started is accepted: LINE_DONE or DETACHED_LINE_END with
result done, on the line and with the data of the outstanding line write; every other command leaves every line. What is
said is the model's record of the part's own accepted writes (log 12). -/
def Obligations.OnlyAcceptedLineWritesChangeMemory : Prop :=
  ∀ (c : Instr) (s : State), ∃ t, exec c s = .next t ∧
    ((∃ owner a l, s.inReset = false ∧ s.port = .busy owner (.write a l) ∧
        ((∃ data, c = .lineDone data) ∨ (owner = none ∧ ∃ data, c = .detachedLineEnd (.done data))) ∧
        ∀ b, nodeRead b t.nodeMem = if b = a then some l else nodeRead b s.nodeMem) ∨
      ((∀ owner a l, s.port = .busy owner (.write a l) → ¬ s.inReset = true →
          (∀ data, c ≠ .lineDone data) ∧ (owner = none → ∀ data, c ≠ .detachedLineEnd (.done data))) ∧
        t.nodeMem = s.nodeMem))

/-! ### Readiness and the drain -/

/-- A CLOSING grant found ready is handed over; one that is not, or is not CLOSING, is left alone. A drain whose contexts
are all IDLE ends in HELD with HOLD_REACHED handed over; otherwise nothing changes. That these rows act where their
condition stands is the model's choice (log 4, log 5). -/
def Obligations.GrantReadyAndDrainEnd : Prop :=
  ∀ s : State, s.inReset = false →
    (∀ g : GrantNum, exec (.grantReady g) s = .next (s.withReady (s.readyAmong [g])) ∧
      (s.readyAmong [g] = [] → exec (.grantReady g) s = .next s)) ∧
    exec .drainEnd s = .next s.withDrainTest

/-! ### Invariants -/

/-- The state after power-on reset has every invariant of the part. -/
def Obligations.ResetHoldsInvariants : Prop :=
  State.reset.GrantListsPartition ∧ State.reset.IndexSorted ∧ State.reset.WindowsCompatible ∧
    State.reset.WindowsBelowMemTop ∧ State.reset.TermsInRange ∧ State.reset.QueuesSound ∧ State.reset.QuietLink ∧
    State.reset.LinkFollowsEnable ∧ State.reset.RepliesCounted ∧ State.reset.OffersSound ∧
    State.reset.TransmitterEager ∧ State.reset.PortEager ∧ State.reset.HoldConsistent ∧ State.reset.InFlightCounted ∧
    State.reset.StationsDistinct ∧ State.reset.HeldCounted ∧ State.reset.NoticeQueuesSound ∧
    State.reset.SettingsInRange

/-- FREE LIST AND WINDOW INDEX, kept by every step: the free list holds each FREE entry exactly once and the window index
each LIVE and CLOSING entry exactly once, so their lengths sum to 512; and the index stays sorted by base, and among equal
bases by grant number. -/
def Obligations.ListsPartitionKept : Prop :=
  ∀ s t : State, s.GrantListsPartition → s.IndexSorted → step s = .next t →
    t.GrantListsPartition ∧ t.freeList.length + t.index.length = 512 ∧ t.IndexSorted

/-- No two LIVE or CLOSING grants ever conflict, every window ends at or below MEM_TOP, and the terms of the grants stay in
their ranges. -/
def Obligations.GrantedWindowsStaySafe : Prop :=
  ∀ s t : State, s.GrantListsPartition → s.WindowsCompatible → s.WindowsBelowMemTop → s.TermsInRange →
    step s = .next t → t.WindowsCompatible ∧ t.WindowsBelowMemTop ∧ t.TermsInRange

/-- The completion queue, the command FIFO and the event backlog stay sound: within their capacities, a backlog only behind
a full queue, each source in it once and as its record needs it. -/
def Obligations.QueuesStaySound : Prop :=
  ∀ s t : State, s.QueuesSound → step s = .next t → t.QueuesSound

/-- The link's state stays consistent: nothing is queued or sent while it is not UP, LINK_ENABLE follows the link state,
the immediate replies are counted and at most four, the offer list and the head frame states agree, and a free transmitter
has nothing to send. -/
def Obligations.LinkStateStaysConsistent : Prop :=
  ∀ s t : State, s.QuietLink → s.LinkFollowsEnable → s.RepliesCounted → s.OffersSound → s.TransmitterEager →
    step s = .next t →
    t.QuietLink ∧ t.LinkFollowsEnable ∧ t.RepliesCounted ∧ t.OffersSound ∧ t.TransmitterEager

/-- The hold state stays consistent, and so do the settings and the record of node memory: freeze only in hold, every
context IDLE in HELD and some context not IDLE in DRAINING; and the tick phase stays below the tick period, so that
between two events no tick is due (log 2). -/
def Obligations.HoldAndSettingsStayConsistent : Prop :=
  ∀ s t : State, s.HoldConsistent → s.SettingsInRange → step s = .next t → t.HoldConsistent ∧ t.SettingsInRange

/-- Each grant's in-flight count stays the number of contexts whose memory phase is under way on it, 0 in a FREE entry and
in one that waits to retire; and a free port stays one with nothing to do. -/
def Obligations.InFlightStaysCounted : Prop :=
  ∀ s t : State, s.GrantListsPartition → s.QueuesSound → s.InFlightCounted → s.PortEager → step s = .next t →
    t.InFlightCounted ∧ t.PortEager

/-- No two records name one station, each held count stays the number of LIVE and CLOSING grants of its station, and each
notice queue holds exactly its station's open notices. -/
def Obligations.StationCountsStayTrue : Prop :=
  ∀ s t : State, s.GrantListsPartition → s.QueuesSound → s.StationsDistinct → s.HeldCounted → s.NoticeQueuesSound →
    step s = .next t →
    t.StationsDistinct ∧ t.HeldCounted ∧ t.NoticeQueuesSound
end

