-- ==== Sys2Proof/Laws/Records.lean ====
section
/-! SUPPORT. Bit fields of words, and the round trip of command records: the command that a record carries is read back
from it, whatever its tag (R188). -/

set_option linter.unusedSimpArgs false
set_option linter.unusedTactic false
set_option linter.unreachableTactic false

namespace Sys2Proof.Machine

/-- Bit `i` of a placed field. -/
theorem getElem_place {n : Nat} (lo : Nat) (x : BitVec n) (i : Nat) (hi : i < 32) :
    (place lo x)[i] = (decide (lo ≤ i) && x.getLsbD (i - lo)) := by
  simp only [place, BitVec.getElem_shiftLeft, BitVec.getElem_setWidth]
  by_cases h : i < lo
  · simp [h]
  · simp [h, Nat.le_of_not_lt h]

/-- Bit `i` of a placed field, as `getLsbD` reads it. -/
theorem getLsbD_place {n : Nat} (lo : Nat) (x : BitVec n) (i : Nat) :
    (place lo x).getLsbD i = (decide (i < 32) && decide (lo ≤ i) && x.getLsbD (i - lo)) := by
  by_cases hi : i < 32
  · rw [BitVec.getLsbD_eq_getElem hi, getElem_place lo x i hi]; simp [hi]
  · rw [BitVec.getLsbD_of_ge _ _ (by omega)]; simp [hi]

/-- Bit `i` of a flag. -/
theorem getElem_flag (lo : Nat) (b : Bool) (i : Nat) (hi : i < 32) :
    (flag lo b)[i] = (decide (lo = i) && b) := by
  rw [flag, getElem_place]
  by_cases h : lo = i
  · subst h; cases b <;> simp
  · by_cases h' : lo ≤ i
    · have : (BitVec.ofBool b).getLsbD (i - lo) = false := BitVec.getLsbD_of_ge _ _ (by omega)
      simp [h, this]
    · simp [h, h']

/-- Bit `i` of a flag, as `getLsbD` reads it. -/
theorem getLsbD_flag (lo : Nat) (b : Bool) (i : Nat) :
    (flag lo b).getLsbD i = (decide (i < 32) && decide (lo = i) && b) := by
  by_cases hi : i < 32
  · rw [BitVec.getLsbD_eq_getElem hi, getElem_flag lo b i hi]; simp [hi]
  · rw [BitVec.getLsbD_of_ge _ _ (by omega)]; simp [hi]

/-- Bit `i` of a field read from a word. -/
theorem getElem_bits (w : Word) (lo len i : Nat) (hi : i < len) : (bits w lo len)[i] = w.getLsbD (lo + i) := by
  simp [bits]

/-- Bit `i` of a field read from a word, as `getLsbD` reads it. -/
theorem getLsbD_bits (w : Word) (lo len i : Nat) : (bits w lo len).getLsbD i = (decide (i < len) && w.getLsbD (lo + i)) := by
  simp [bits]

/-- A field of two words combined. -/
theorem bits_or (v w : Word) (lo len : Nat) : bits (v ||| w) lo len = bits v lo len ||| bits w lo len := by
  apply BitVec.eq_of_getLsbD_eq
  intro i hi
  simp only [getLsbD_bits, BitVec.getLsbD_or, Bool.and_or_distrib_left]

theorem bits_zero (lo len : Nat) : bits 0 lo len = 0 := by
  apply BitVec.eq_of_getLsbD_eq
  intro i hi
  rw [getLsbD_bits]
  simp

/-- A placed field is read back. -/
theorem bits_place_self {n : Nat} (lo : Nat) (x : BitVec n) (h : lo + n ≤ 32) : bits (place lo x) lo n = x := by
  apply BitVec.eq_of_getLsbD_eq
  intro i hi
  have h1 : lo + i < 32 := by omega
  have h2 : lo + i - lo = i := by omega
  rw [getLsbD_bits, getLsbD_place, h2]
  simp only [hi, h1, Nat.le_add_right, decide_true, Bool.true_and]

/-- A field read outside a placed one is 0. -/
theorem bits_place_disjoint {n : Nat} (l : Nat) (x : BitVec n) (lo len : Nat) (h : l + n ≤ lo ∨ lo + len ≤ l) :
    bits (place l x) lo len = 0 := by
  apply BitVec.eq_of_getLsbD_eq
  intro i hi
  rw [getLsbD_bits, getLsbD_place]
  by_cases hl : l ≤ lo + i
  · rw [BitVec.getLsbD_of_ge x (lo + i - l) (by omega)]; simp
  · simp [hl]

/-- A field read outside a flag is 0. -/
theorem bits_flag_disjoint (l : Nat) (b : Bool) (lo len : Nat) (h : l + 1 ≤ lo ∨ lo + len ≤ l) :
    bits (flag l b) lo len = 0 := bits_place_disjoint l _ lo len h

/-- A bit outside a placed field is 0. -/
theorem getLsbD_place_disjoint {n : Nat} (l : Nat) (x : BitVec n) (i : Nat) (h : l + n ≤ i ∨ i < l) :
    (place l x).getLsbD i = false := by
  rw [getLsbD_place]
  by_cases hl : l ≤ i
  · rw [BitVec.getLsbD_of_ge x (i - l) (by omega)]; simp
  · simp [hl]

/-- A 17-bit length put together from its high bit and its low part (R188). -/
theorem length_halves (x : BitVec 17) : x.extractLsb' 16 1 ++ x.extractLsb' 0 16 = x := by
  apply BitVec.eq_of_getLsbD_eq
  intro i hi
  rw [BitVec.getLsbD_append, BitVec.getLsbD_extractLsb', BitVec.getLsbD_extractLsb']
  by_cases h : i < 16
  · simp [h]
  · have : i = 16 := by omega
    subst this
    simp

/-- The words of an encoded command. -/
theorem encodeCommand_word0 (tag : BitVec 16) (c : Command) :
    (encodeCommand tag c)[0] = place 0 (commandCode c) ||| commandHead c ||| place 16 tag := rfl

theorem encodeCommand_word1 (tag : BitVec 16) (c : Command) : (encodeCommand tag c)[1] = commandWord1 c := rfl

theorem encodeCommand_word2 (tag : BitVec 16) (c : Command) : (encodeCommand tag c)[2] = commandWord2 c := rfl

theorem encodeCommand_word3 (tag : BitVec 16) (c : Command) : (encodeCommand tag c)[3] = commandWord3 c := rfl

/-- A word has bits set only from `lo` up to below `hi`. -/
def Within (lo hi : Nat) (w : Word) : Prop := ∀ i, i < lo ∨ hi ≤ i → w.getLsbD i = false

theorem Within.or {lo hi : Nat} {v w : Word} (hv : Within lo hi v) (hw : Within lo hi w) : Within lo hi (v ||| w) := by
  intro i h
  rw [BitVec.getLsbD_or, hv i h, hw i h]; rfl

theorem Within.place {lo hi n : Nat} (l : Nat) (x : BitVec n) (h1 : lo ≤ l) (h2 : l + n ≤ hi) :
    Within lo hi (place l x) := by
  intro i h
  rw [getLsbD_place]
  by_cases hl : l ≤ i
  · rw [BitVec.getLsbD_of_ge x (i - l) (by omega)]; simp
  · simp [hl]

theorem Within.flag {lo hi : Nat} (l : Nat) (b : Bool) (h1 : lo ≤ l) (h2 : l + 1 ≤ hi) : Within lo hi (flag l b) :=
  Within.place l _ h1 h2

theorem Within.zero {lo hi : Nat} : Within lo hi 0 := fun i _ => by simp

/-- The head field of a command leaves the code and tag fields 0. -/
theorem within_commandHead (c : Command) : Within 4 16 (commandHead c) := by
  cases c <;> unfold commandHead <;>
    repeat' first
      | with_reducible refine Within.or ?_ ?_
      | with_reducible refine Within.flag _ _ (by decide) (by decide)
      | with_reducible refine Within.place _ _ (by decide) (by decide)
      | with_reducible exact Within.zero

/-- The tag of an encoded command is read back. -/
theorem tag_encodeCommand (tag : BitVec 16) (c : Command) : Record.tag (encodeCommand tag c) = tag := by
  have h : bits (commandHead c) 16 16 = 0 := by
    apply BitVec.eq_of_getLsbD_eq
    intro i hi
    rw [getLsbD_bits, within_commandHead c (16 + i) (Or.inr (by omega))]; simp
  rw [Record.tag, encodeCommand_word0, bits_or, bits_or, h, bits_place_disjoint _ _ _ _ (Or.inl (by decide)),
    bits_place_self _ _ (by decide)]
  simp

/-- The code of an encoded command is read back. -/
theorem code_encodeCommand (tag : BitVec 16) (c : Command) : Record.code (encodeCommand tag c) = commandCode c := by
  have h : bits (commandHead c) 0 4 = 0 := by
    apply BitVec.eq_of_getLsbD_eq
    intro i hi
    rw [getLsbD_bits, within_commandHead c (0 + i) (Or.inl (by omega))]; simp
  rw [Record.code, encodeCommand_word0, bits_or, bits_or, h, bits_place_self _ _ (by decide),
    bits_place_disjoint _ _ _ _ (Or.inr (by decide))]
  simp

/-- A field of the head of a record is the one of the command's own head bits. -/
theorem bits_word0 (tag : BitVec 16) (c : Command) (lo len : Nat) (h1 : 4 ≤ lo) (h2 : lo + len ≤ 16) :
    bits (encodeCommand tag c)[0] lo len = bits (commandHead c) lo len := by
  rw [encodeCommand_word0, bits_or, bits_or, bits_place_disjoint _ _ _ _ (Or.inl (by omega)),
    bits_place_disjoint _ _ _ _ (Or.inr (by omega))]
  simp

/-- A flag of the head of a record is the one of the command's own head bits. -/
theorem getLsbD_word0 (tag : BitVec 16) (c : Command) (i : Nat) (h1 : 4 ≤ i) (h2 : i < 16) :
    (encodeCommand tag c)[0].getLsbD i = (commandHead c).getLsbD i := by
  rw [encodeCommand_word0, BitVec.getLsbD_or, BitVec.getLsbD_or, getLsbD_place_disjoint _ _ _ (Or.inl (by omega)),
    getLsbD_place_disjoint _ _ _ (Or.inr (by omega))]
  simp

/-- The commands that a row of the table carries: `bad` stands for a code that is none of the fourteen. -/
def ProperCommand : Command → Prop
  | .bad code => code = 0 ∨ code = 15
  | _ => True

/-- The fields of an encoded issue record are read back. -/
theorem decodeIssue_encodeCommand (tag : BitVec 16) (f : IssueFields) : decodeIssue (encodeCommand tag (.issue f)) = f := by
  cases f
  simp (disch := decide) only [decodeIssue, bits_word0, getLsbD_word0, encodeCommand_word1, encodeCommand_word2,
    encodeCommand_word3, commandHead, commandWord1, commandWord2, commandWord3, bits_or, BitVec.getLsbD_or, getLsbD_flag,
    getLsbD_place_disjoint, bits_place_self, bits_place_disjoint, bits_flag_disjoint, bits_zero, length_halves]
  simp [length_halves]

/-- The fields of an encoded amend record are read back. -/
theorem decodeAmend_encodeCommand (tag : BitVec 16) (f : AmendFields) : decodeAmend (encodeCommand tag (.amend f)) = f := by
  cases f
  simp (disch := decide) only [decodeAmend, bits_word0, getLsbD_word0, encodeCommand_word1, encodeCommand_word2,
    encodeCommand_word3, commandHead, commandWord1, commandWord2, commandWord3, bits_or, BitVec.getLsbD_or, getLsbD_flag,
    getLsbD_place_disjoint, bits_place_self, bits_place_disjoint, bits_flag_disjoint, bits_zero, length_halves]
  simp [length_halves]

/-- The fields of an encoded setLimits record are read back. -/
theorem decodeLimits_encodeCommand (tag : BitVec 16) (f : LimitsFields) : decodeLimits (encodeCommand tag (.setLimits f)) = f := by
  cases f
  simp (disch := decide) only [decodeLimits, bits_word0, getLsbD_word0, encodeCommand_word1, encodeCommand_word2,
    encodeCommand_word3, commandHead, commandWord1, commandWord2, commandWord3, bits_or, BitVec.getLsbD_or, getLsbD_flag,
    getLsbD_place_disjoint, bits_place_self, bits_place_disjoint, bits_flag_disjoint, bits_zero, length_halves]
  simp [length_halves]

/-- The fields of an encoded setTiming record are read back. -/
theorem decodeTiming_encodeCommand (tag : BitVec 16) (f : TimingFields) : decodeTiming (encodeCommand tag (.setTiming f)) = f := by
  cases f
  simp (disch := decide) only [decodeTiming, bits_word0, getLsbD_word0, encodeCommand_word1, encodeCommand_word2,
    encodeCommand_word3, commandHead, commandWord1, commandWord2, commandWord3, bits_or, BitVec.getLsbD_or, getLsbD_flag,
    getLsbD_place_disjoint, bits_place_self, bits_place_disjoint, bits_flag_disjoint, bits_zero, length_halves]
  simp [length_halves]

/-- The command of an encoded record is read back, with every operand at every value (R188). -/
theorem decodeCommand_encodeCommand (tag : BitVec 16) (c : Command) (h : ProperCommand c) :
    decodeCommand (encodeCommand tag c) = c := by
  unfold decodeCommand
  rw [code_encodeCommand]
  cases c
  case bad code =>
    rcases h with rfl | rfl <;> rfl
  case issue f => exact congrArg Command.issue (decodeIssue_encodeCommand tag f)
  case amend f => exact congrArg Command.amend (decodeAmend_encodeCommand tag f)
  case setLimits f => exact congrArg Command.setLimits (decodeLimits_encodeCommand tag f)
  case setTiming f => exact congrArg Command.setTiming (decodeTiming_encodeCommand tag f)
  case revoke grant gen =>
    show Command.revoke _ _ = _
    simp (disch := decide) only [bits_word0, getLsbD_word0, encodeCommand_word1, encodeCommand_word2,
      encodeCommand_word3, commandHead, commandWord1, commandWord2, commandWord3, bits_or, BitVec.getLsbD_or, getLsbD_flag,
      getLsbD_place_disjoint, bits_place_self, bits_place_disjoint, bits_flag_disjoint, bits_zero, length_halves]
    try simp
  case sweep station shared =>
    show Command.sweep _ _ = _
    simp (disch := decide) only [bits_word0, getLsbD_word0, encodeCommand_word1, encodeCommand_word2,
      encodeCommand_word3, commandHead, commandWord1, commandWord2, commandWord3, bits_or, BitVec.getLsbD_or, getLsbD_flag,
      getLsbD_place_disjoint, bits_place_self, bits_place_disjoint, bits_flag_disjoint, bits_zero, length_halves]
    try simp
  case queryGrant grant part =>
    show Command.queryGrant _ _ = _
    simp (disch := decide) only [bits_word0, getLsbD_word0, encodeCommand_word1, encodeCommand_word2,
      encodeCommand_word3, commandHead, commandWord1, commandWord2, commandWord3, bits_or, BitVec.getLsbD_or, getLsbD_flag,
      getLsbD_place_disjoint, bits_place_self, bits_place_disjoint, bits_flag_disjoint, bits_zero, length_halves]
    try simp
  case queryLine line skip =>
    show Command.queryLine _ _ = _
    simp (disch := decide) only [bits_word0, getLsbD_word0, encodeCommand_word1, encodeCommand_word2,
      encodeCommand_word3, commandHead, commandWord1, commandWord2, commandWord3, bits_or, BitVec.getLsbD_or, getLsbD_flag,
      getLsbD_place_disjoint, bits_place_self, bits_place_disjoint, bits_flag_disjoint, bits_zero, length_halves]
    try simp
  case admitStation station quota =>
    show Command.admitStation _ _ = _
    simp (disch := decide) only [bits_word0, getLsbD_word0, encodeCommand_word1, encodeCommand_word2,
      encodeCommand_word3, commandHead, commandWord1, commandWord2, commandWord3, bits_or, BitVec.getLsbD_or, getLsbD_flag,
      getLsbD_place_disjoint, bits_place_self, bits_place_disjoint, bits_flag_disjoint, bits_zero, length_halves]
    try simp
  case bar station =>
    show Command.bar _ = _
    simp (disch := decide) only [bits_word0, getLsbD_word0, encodeCommand_word1, encodeCommand_word2,
      encodeCommand_word3, commandHead, commandWord1, commandWord2, commandWord3, bits_or, BitVec.getLsbD_or, getLsbD_flag,
      getLsbD_place_disjoint, bits_place_self, bits_place_disjoint, bits_flag_disjoint, bits_zero, length_halves]
    try simp
  case forget station =>
    show Command.forget _ = _
    simp (disch := decide) only [bits_word0, getLsbD_word0, encodeCommand_word1, encodeCommand_word2,
      encodeCommand_word3, commandHead, commandWord1, commandWord2, commandWord3, bits_or, BitVec.getLsbD_or, getLsbD_flag,
      getLsbD_place_disjoint, bits_place_self, bits_place_disjoint, bits_flag_disjoint, bits_zero, length_halves]
    try simp
  case queryStation station part =>
    show Command.queryStation _ _ = _
    simp (disch := decide) only [bits_word0, getLsbD_word0, encodeCommand_word1, encodeCommand_word2,
      encodeCommand_word3, commandHead, commandWord1, commandWord2, commandWord3, bits_or, BitVec.getLsbD_or, getLsbD_flag,
      getLsbD_place_disjoint, bits_place_self, bits_place_disjoint, bits_flag_disjoint, bits_zero, length_halves]
    try simp
  case hold freeze =>
    show Command.hold _ = _
    simp (disch := decide) only [bits_word0, getLsbD_word0, encodeCommand_word1, encodeCommand_word2,
      encodeCommand_word3, commandHead, commandWord1, commandWord2, commandWord3, bits_or, BitVec.getLsbD_or, getLsbD_flag,
      getLsbD_place_disjoint, bits_place_self, bits_place_disjoint, bits_flag_disjoint, bits_zero, length_halves]
    try simp
  case resume => rfl

end Sys2Proof.Machine
end

