-- ==== Sys2Proof/Laws/State.lean ====
section
/-! SUPPORT. One lemma for each field of the state under each named update: which field the update sets, and that it leaves
the others. Then the records that the updates set, read back. -/

namespace Sys2Proof.Machine

/-! ### `setGrant` -/

@[simp] theorem State.setGrant_resetnLow (s : State) (g : GrantNum) (x : Grant) : (s.setGrant g x).resetnLow = s.resetnLow := rfl
@[simp] theorem State.setGrant_supplyOut (s : State) (g : GrantNum) (x : Grant) : (s.setGrant g x).supplyOut = s.supplyOut := rfl
@[simp] theorem State.setGrant_linkEnable (s : State) (g : GrantNum) (x : Grant) : (s.setGrant g x).linkEnable = s.linkEnable := rfl
@[simp] theorem State.setGrant_enables (s : State) (g : GrantNum) (x : Grant) : (s.setGrant g x).enables = s.enables := rfl
@[simp] theorem State.setGrant_alerts (s : State) (g : GrantNum) (x : Grant) : (s.setGrant g x).alerts = s.alerts := rfl
@[simp] theorem State.setGrant_stage (s : State) (g : GrantNum) (x : Grant) : (s.setGrant g x).stage = s.stage := rfl
@[simp] theorem State.setGrant_fifo (s : State) (g : GrantNum) (x : Grant) : (s.setGrant g x).fifo = s.fifo := rfl
@[simp] theorem State.setGrant_memTop (s : State) (g : GrantNum) (x : Grant) : (s.setGrant g x).memTop = s.memTop := rfl
@[simp] theorem State.setGrant_policy (s : State) (g : GrantNum) (x : Grant) : (s.setGrant g x).policy = s.policy := rfl
@[simp] theorem State.setGrant_defaultQuota (s : State) (g : GrantNum) (x : Grant) : (s.setGrant g x).defaultQuota = s.defaultQuota := rfl
@[simp] theorem State.setGrant_tickPeriod (s : State) (g : GrantNum) (x : Grant) : (s.setGrant g x).tickPeriod = s.tickPeriod := rfl
@[simp] theorem State.setGrant_noticeInterval (s : State) (g : GrantNum) (x : Grant) : (s.setGrant g x).noticeInterval = s.noticeInterval := rfl
@[simp] theorem State.setGrant_noticeTries (s : State) (g : GrantNum) (x : Grant) : (s.setGrant g x).noticeTries = s.noticeTries := rfl
@[simp] theorem State.setGrant_tickPhase (s : State) (g : GrantNum) (x : Grant) : (s.setGrant g x).tickPhase = s.tickPhase := rfl
@[simp] theorem State.setGrant_freeList (s : State) (g : GrantNum) (x : Grant) : (s.setGrant g x).freeList = s.freeList := rfl
@[simp] theorem State.setGrant_index (s : State) (g : GrantNum) (x : Grant) : (s.setGrant g x).index = s.index := rfl
@[simp] theorem State.setGrant_slots (s : State) (g : GrantNum) (x : Grant) : (s.setGrant g x).slots = s.slots := rfl
@[simp] theorem State.setGrant_immCount (s : State) (g : GrantNum) (x : Grant) : (s.setGrant g x).immCount = s.immCount := rfl
@[simp] theorem State.setGrant_ctxs (s : State) (g : GrantNum) (x : Grant) : (s.setGrant g x).ctxs = s.ctxs := rfl
@[simp] theorem State.setGrant_port (s : State) (g : GrantNum) (x : Grant) : (s.setGrant g x).port = s.port := rfl
@[simp] theorem State.setGrant_lastServed (s : State) (g : GrantNum) (x : Grant) : (s.setGrant g x).lastServed = s.lastServed := rfl
@[simp] theorem State.setGrant_nodeMem (s : State) (g : GrantNum) (x : Grant) : (s.setGrant g x).nodeMem = s.nodeMem := rfl
@[simp] theorem State.setGrant_offers (s : State) (g : GrantNum) (x : Grant) : (s.setGrant g x).offers = s.offers := rfl
@[simp] theorem State.setGrant_link (s : State) (g : GrantNum) (x : Grant) : (s.setGrant g x).link = s.link := rfl
@[simp] theorem State.setGrant_self (s : State) (g : GrantNum) (x : Grant) : (s.setGrant g x).self = s.self := rfl
@[simp] theorem State.setGrant_trainingTime (s : State) (g : GrantNum) (x : Grant) : (s.setGrant g x).trainingTime = s.trainingTime := rfl
@[simp] theorem State.setGrant_receiving (s : State) (g : GrantNum) (x : Grant) : (s.setGrant g x).receiving = s.receiving := rfl
@[simp] theorem State.setGrant_replyQ (s : State) (g : GrantNum) (x : Grant) : (s.setGrant g x).replyQ = s.replyQ := rfl
@[simp] theorem State.setGrant_tx (s : State) (g : GrantNum) (x : Grant) : (s.setGrant g x).tx = s.tx := rfl
@[simp] theorem State.setGrant_cq (s : State) (g : GrantNum) (x : Grant) : (s.setGrant g x).cq = s.cq := rfl
@[simp] theorem State.setGrant_backlog (s : State) (g : GrantNum) (x : Grant) : (s.setGrant g x).backlog = s.backlog := rfl
@[simp] theorem State.setGrant_hold (s : State) (g : GrantNum) (x : Grant) : (s.setGrant g x).hold = s.hold := rfl
@[simp] theorem State.setGrant_freeze (s : State) (g : GrantNum) (x : Grant) : (s.setGrant g x).freeze = s.freeze := rfl
@[simp] theorem State.setGrant_pending (s : State) (g : GrantNum) (x : Grant) : (s.setGrant g x).pending = s.pending := rfl

/-! ### `setBody` -/

@[simp] theorem State.setBody_resetnLow (s : State) (g : GrantNum) (b : Body) : (s.setBody g b).resetnLow = s.resetnLow := rfl
@[simp] theorem State.setBody_supplyOut (s : State) (g : GrantNum) (b : Body) : (s.setBody g b).supplyOut = s.supplyOut := rfl
@[simp] theorem State.setBody_linkEnable (s : State) (g : GrantNum) (b : Body) : (s.setBody g b).linkEnable = s.linkEnable := rfl
@[simp] theorem State.setBody_enables (s : State) (g : GrantNum) (b : Body) : (s.setBody g b).enables = s.enables := rfl
@[simp] theorem State.setBody_alerts (s : State) (g : GrantNum) (b : Body) : (s.setBody g b).alerts = s.alerts := rfl
@[simp] theorem State.setBody_stage (s : State) (g : GrantNum) (b : Body) : (s.setBody g b).stage = s.stage := rfl
@[simp] theorem State.setBody_fifo (s : State) (g : GrantNum) (b : Body) : (s.setBody g b).fifo = s.fifo := rfl
@[simp] theorem State.setBody_memTop (s : State) (g : GrantNum) (b : Body) : (s.setBody g b).memTop = s.memTop := rfl
@[simp] theorem State.setBody_policy (s : State) (g : GrantNum) (b : Body) : (s.setBody g b).policy = s.policy := rfl
@[simp] theorem State.setBody_defaultQuota (s : State) (g : GrantNum) (b : Body) : (s.setBody g b).defaultQuota = s.defaultQuota := rfl
@[simp] theorem State.setBody_tickPeriod (s : State) (g : GrantNum) (b : Body) : (s.setBody g b).tickPeriod = s.tickPeriod := rfl
@[simp] theorem State.setBody_noticeInterval (s : State) (g : GrantNum) (b : Body) : (s.setBody g b).noticeInterval = s.noticeInterval := rfl
@[simp] theorem State.setBody_noticeTries (s : State) (g : GrantNum) (b : Body) : (s.setBody g b).noticeTries = s.noticeTries := rfl
@[simp] theorem State.setBody_tickPhase (s : State) (g : GrantNum) (b : Body) : (s.setBody g b).tickPhase = s.tickPhase := rfl
@[simp] theorem State.setBody_freeList (s : State) (g : GrantNum) (b : Body) : (s.setBody g b).freeList = s.freeList := rfl
@[simp] theorem State.setBody_index (s : State) (g : GrantNum) (b : Body) : (s.setBody g b).index = s.index := rfl
@[simp] theorem State.setBody_slots (s : State) (g : GrantNum) (b : Body) : (s.setBody g b).slots = s.slots := rfl
@[simp] theorem State.setBody_immCount (s : State) (g : GrantNum) (b : Body) : (s.setBody g b).immCount = s.immCount := rfl
@[simp] theorem State.setBody_ctxs (s : State) (g : GrantNum) (b : Body) : (s.setBody g b).ctxs = s.ctxs := rfl
@[simp] theorem State.setBody_port (s : State) (g : GrantNum) (b : Body) : (s.setBody g b).port = s.port := rfl
@[simp] theorem State.setBody_lastServed (s : State) (g : GrantNum) (b : Body) : (s.setBody g b).lastServed = s.lastServed := rfl
@[simp] theorem State.setBody_nodeMem (s : State) (g : GrantNum) (b : Body) : (s.setBody g b).nodeMem = s.nodeMem := rfl
@[simp] theorem State.setBody_offers (s : State) (g : GrantNum) (b : Body) : (s.setBody g b).offers = s.offers := rfl
@[simp] theorem State.setBody_link (s : State) (g : GrantNum) (b : Body) : (s.setBody g b).link = s.link := rfl
@[simp] theorem State.setBody_self (s : State) (g : GrantNum) (b : Body) : (s.setBody g b).self = s.self := rfl
@[simp] theorem State.setBody_trainingTime (s : State) (g : GrantNum) (b : Body) : (s.setBody g b).trainingTime = s.trainingTime := rfl
@[simp] theorem State.setBody_receiving (s : State) (g : GrantNum) (b : Body) : (s.setBody g b).receiving = s.receiving := rfl
@[simp] theorem State.setBody_replyQ (s : State) (g : GrantNum) (b : Body) : (s.setBody g b).replyQ = s.replyQ := rfl
@[simp] theorem State.setBody_tx (s : State) (g : GrantNum) (b : Body) : (s.setBody g b).tx = s.tx := rfl
@[simp] theorem State.setBody_cq (s : State) (g : GrantNum) (b : Body) : (s.setBody g b).cq = s.cq := rfl
@[simp] theorem State.setBody_backlog (s : State) (g : GrantNum) (b : Body) : (s.setBody g b).backlog = s.backlog := rfl
@[simp] theorem State.setBody_hold (s : State) (g : GrantNum) (b : Body) : (s.setBody g b).hold = s.hold := rfl
@[simp] theorem State.setBody_freeze (s : State) (g : GrantNum) (b : Body) : (s.setBody g b).freeze = s.freeze := rfl
@[simp] theorem State.setBody_pending (s : State) (g : GrantNum) (b : Body) : (s.setBody g b).pending = s.pending := rfl

/-! ### `setSlot` -/

@[simp] theorem State.setSlot_resetnLow (s : State) (sl : SlotNum) (x : Slot) : (s.setSlot sl x).resetnLow = s.resetnLow := rfl
@[simp] theorem State.setSlot_supplyOut (s : State) (sl : SlotNum) (x : Slot) : (s.setSlot sl x).supplyOut = s.supplyOut := rfl
@[simp] theorem State.setSlot_linkEnable (s : State) (sl : SlotNum) (x : Slot) : (s.setSlot sl x).linkEnable = s.linkEnable := rfl
@[simp] theorem State.setSlot_enables (s : State) (sl : SlotNum) (x : Slot) : (s.setSlot sl x).enables = s.enables := rfl
@[simp] theorem State.setSlot_alerts (s : State) (sl : SlotNum) (x : Slot) : (s.setSlot sl x).alerts = s.alerts := rfl
@[simp] theorem State.setSlot_stage (s : State) (sl : SlotNum) (x : Slot) : (s.setSlot sl x).stage = s.stage := rfl
@[simp] theorem State.setSlot_fifo (s : State) (sl : SlotNum) (x : Slot) : (s.setSlot sl x).fifo = s.fifo := rfl
@[simp] theorem State.setSlot_memTop (s : State) (sl : SlotNum) (x : Slot) : (s.setSlot sl x).memTop = s.memTop := rfl
@[simp] theorem State.setSlot_policy (s : State) (sl : SlotNum) (x : Slot) : (s.setSlot sl x).policy = s.policy := rfl
@[simp] theorem State.setSlot_defaultQuota (s : State) (sl : SlotNum) (x : Slot) : (s.setSlot sl x).defaultQuota = s.defaultQuota := rfl
@[simp] theorem State.setSlot_tickPeriod (s : State) (sl : SlotNum) (x : Slot) : (s.setSlot sl x).tickPeriod = s.tickPeriod := rfl
@[simp] theorem State.setSlot_noticeInterval (s : State) (sl : SlotNum) (x : Slot) : (s.setSlot sl x).noticeInterval = s.noticeInterval := rfl
@[simp] theorem State.setSlot_noticeTries (s : State) (sl : SlotNum) (x : Slot) : (s.setSlot sl x).noticeTries = s.noticeTries := rfl
@[simp] theorem State.setSlot_tickPhase (s : State) (sl : SlotNum) (x : Slot) : (s.setSlot sl x).tickPhase = s.tickPhase := rfl
@[simp] theorem State.setSlot_grants (s : State) (sl : SlotNum) (x : Slot) : (s.setSlot sl x).grants = s.grants := rfl
@[simp] theorem State.setSlot_freeList (s : State) (sl : SlotNum) (x : Slot) : (s.setSlot sl x).freeList = s.freeList := rfl
@[simp] theorem State.setSlot_index (s : State) (sl : SlotNum) (x : Slot) : (s.setSlot sl x).index = s.index := rfl
@[simp] theorem State.setSlot_immCount (s : State) (sl : SlotNum) (x : Slot) : (s.setSlot sl x).immCount = s.immCount := rfl
@[simp] theorem State.setSlot_ctxs (s : State) (sl : SlotNum) (x : Slot) : (s.setSlot sl x).ctxs = s.ctxs := rfl
@[simp] theorem State.setSlot_port (s : State) (sl : SlotNum) (x : Slot) : (s.setSlot sl x).port = s.port := rfl
@[simp] theorem State.setSlot_lastServed (s : State) (sl : SlotNum) (x : Slot) : (s.setSlot sl x).lastServed = s.lastServed := rfl
@[simp] theorem State.setSlot_nodeMem (s : State) (sl : SlotNum) (x : Slot) : (s.setSlot sl x).nodeMem = s.nodeMem := rfl
@[simp] theorem State.setSlot_offers (s : State) (sl : SlotNum) (x : Slot) : (s.setSlot sl x).offers = s.offers := rfl
@[simp] theorem State.setSlot_link (s : State) (sl : SlotNum) (x : Slot) : (s.setSlot sl x).link = s.link := rfl
@[simp] theorem State.setSlot_self (s : State) (sl : SlotNum) (x : Slot) : (s.setSlot sl x).self = s.self := rfl
@[simp] theorem State.setSlot_trainingTime (s : State) (sl : SlotNum) (x : Slot) : (s.setSlot sl x).trainingTime = s.trainingTime := rfl
@[simp] theorem State.setSlot_receiving (s : State) (sl : SlotNum) (x : Slot) : (s.setSlot sl x).receiving = s.receiving := rfl
@[simp] theorem State.setSlot_replyQ (s : State) (sl : SlotNum) (x : Slot) : (s.setSlot sl x).replyQ = s.replyQ := rfl
@[simp] theorem State.setSlot_tx (s : State) (sl : SlotNum) (x : Slot) : (s.setSlot sl x).tx = s.tx := rfl
@[simp] theorem State.setSlot_cq (s : State) (sl : SlotNum) (x : Slot) : (s.setSlot sl x).cq = s.cq := rfl
@[simp] theorem State.setSlot_backlog (s : State) (sl : SlotNum) (x : Slot) : (s.setSlot sl x).backlog = s.backlog := rfl
@[simp] theorem State.setSlot_hold (s : State) (sl : SlotNum) (x : Slot) : (s.setSlot sl x).hold = s.hold := rfl
@[simp] theorem State.setSlot_freeze (s : State) (sl : SlotNum) (x : Slot) : (s.setSlot sl x).freeze = s.freeze := rfl
@[simp] theorem State.setSlot_pending (s : State) (sl : SlotNum) (x : Slot) : (s.setSlot sl x).pending = s.pending := rfl

/-! ### `modifyRecord` -/

@[simp] theorem State.modifyRecord_resetnLow (s : State) (sl : SlotNum) (f : Station → Station) : (s.modifyRecord sl f).resetnLow = s.resetnLow := rfl
@[simp] theorem State.modifyRecord_supplyOut (s : State) (sl : SlotNum) (f : Station → Station) : (s.modifyRecord sl f).supplyOut = s.supplyOut := rfl
@[simp] theorem State.modifyRecord_linkEnable (s : State) (sl : SlotNum) (f : Station → Station) : (s.modifyRecord sl f).linkEnable = s.linkEnable := rfl
@[simp] theorem State.modifyRecord_enables (s : State) (sl : SlotNum) (f : Station → Station) : (s.modifyRecord sl f).enables = s.enables := rfl
@[simp] theorem State.modifyRecord_alerts (s : State) (sl : SlotNum) (f : Station → Station) : (s.modifyRecord sl f).alerts = s.alerts := rfl
@[simp] theorem State.modifyRecord_stage (s : State) (sl : SlotNum) (f : Station → Station) : (s.modifyRecord sl f).stage = s.stage := rfl
@[simp] theorem State.modifyRecord_fifo (s : State) (sl : SlotNum) (f : Station → Station) : (s.modifyRecord sl f).fifo = s.fifo := rfl
@[simp] theorem State.modifyRecord_memTop (s : State) (sl : SlotNum) (f : Station → Station) : (s.modifyRecord sl f).memTop = s.memTop := rfl
@[simp] theorem State.modifyRecord_policy (s : State) (sl : SlotNum) (f : Station → Station) : (s.modifyRecord sl f).policy = s.policy := rfl
@[simp] theorem State.modifyRecord_defaultQuota (s : State) (sl : SlotNum) (f : Station → Station) : (s.modifyRecord sl f).defaultQuota = s.defaultQuota := rfl
@[simp] theorem State.modifyRecord_tickPeriod (s : State) (sl : SlotNum) (f : Station → Station) : (s.modifyRecord sl f).tickPeriod = s.tickPeriod := rfl
@[simp] theorem State.modifyRecord_noticeInterval (s : State) (sl : SlotNum) (f : Station → Station) : (s.modifyRecord sl f).noticeInterval = s.noticeInterval := rfl
@[simp] theorem State.modifyRecord_noticeTries (s : State) (sl : SlotNum) (f : Station → Station) : (s.modifyRecord sl f).noticeTries = s.noticeTries := rfl
@[simp] theorem State.modifyRecord_tickPhase (s : State) (sl : SlotNum) (f : Station → Station) : (s.modifyRecord sl f).tickPhase = s.tickPhase := rfl
@[simp] theorem State.modifyRecord_grants (s : State) (sl : SlotNum) (f : Station → Station) : (s.modifyRecord sl f).grants = s.grants := rfl
@[simp] theorem State.modifyRecord_freeList (s : State) (sl : SlotNum) (f : Station → Station) : (s.modifyRecord sl f).freeList = s.freeList := rfl
@[simp] theorem State.modifyRecord_index (s : State) (sl : SlotNum) (f : Station → Station) : (s.modifyRecord sl f).index = s.index := rfl
@[simp] theorem State.modifyRecord_immCount (s : State) (sl : SlotNum) (f : Station → Station) : (s.modifyRecord sl f).immCount = s.immCount := rfl
@[simp] theorem State.modifyRecord_ctxs (s : State) (sl : SlotNum) (f : Station → Station) : (s.modifyRecord sl f).ctxs = s.ctxs := rfl
@[simp] theorem State.modifyRecord_port (s : State) (sl : SlotNum) (f : Station → Station) : (s.modifyRecord sl f).port = s.port := rfl
@[simp] theorem State.modifyRecord_lastServed (s : State) (sl : SlotNum) (f : Station → Station) : (s.modifyRecord sl f).lastServed = s.lastServed := rfl
@[simp] theorem State.modifyRecord_nodeMem (s : State) (sl : SlotNum) (f : Station → Station) : (s.modifyRecord sl f).nodeMem = s.nodeMem := rfl
@[simp] theorem State.modifyRecord_offers (s : State) (sl : SlotNum) (f : Station → Station) : (s.modifyRecord sl f).offers = s.offers := rfl
@[simp] theorem State.modifyRecord_link (s : State) (sl : SlotNum) (f : Station → Station) : (s.modifyRecord sl f).link = s.link := rfl
@[simp] theorem State.modifyRecord_self (s : State) (sl : SlotNum) (f : Station → Station) : (s.modifyRecord sl f).self = s.self := rfl
@[simp] theorem State.modifyRecord_trainingTime (s : State) (sl : SlotNum) (f : Station → Station) : (s.modifyRecord sl f).trainingTime = s.trainingTime := rfl
@[simp] theorem State.modifyRecord_receiving (s : State) (sl : SlotNum) (f : Station → Station) : (s.modifyRecord sl f).receiving = s.receiving := rfl
@[simp] theorem State.modifyRecord_replyQ (s : State) (sl : SlotNum) (f : Station → Station) : (s.modifyRecord sl f).replyQ = s.replyQ := rfl
@[simp] theorem State.modifyRecord_tx (s : State) (sl : SlotNum) (f : Station → Station) : (s.modifyRecord sl f).tx = s.tx := rfl
@[simp] theorem State.modifyRecord_cq (s : State) (sl : SlotNum) (f : Station → Station) : (s.modifyRecord sl f).cq = s.cq := rfl
@[simp] theorem State.modifyRecord_backlog (s : State) (sl : SlotNum) (f : Station → Station) : (s.modifyRecord sl f).backlog = s.backlog := rfl
@[simp] theorem State.modifyRecord_hold (s : State) (sl : SlotNum) (f : Station → Station) : (s.modifyRecord sl f).hold = s.hold := rfl
@[simp] theorem State.modifyRecord_freeze (s : State) (sl : SlotNum) (f : Station → Station) : (s.modifyRecord sl f).freeze = s.freeze := rfl
@[simp] theorem State.modifyRecord_pending (s : State) (sl : SlotNum) (f : Station → Station) : (s.modifyRecord sl f).pending = s.pending := rfl

/-! ### `setCtx` -/

@[simp] theorem State.setCtx_resetnLow (s : State) (c : CtxNum) (x : Ctx) : (s.setCtx c x).resetnLow = s.resetnLow := rfl
@[simp] theorem State.setCtx_supplyOut (s : State) (c : CtxNum) (x : Ctx) : (s.setCtx c x).supplyOut = s.supplyOut := rfl
@[simp] theorem State.setCtx_linkEnable (s : State) (c : CtxNum) (x : Ctx) : (s.setCtx c x).linkEnable = s.linkEnable := rfl
@[simp] theorem State.setCtx_enables (s : State) (c : CtxNum) (x : Ctx) : (s.setCtx c x).enables = s.enables := rfl
@[simp] theorem State.setCtx_alerts (s : State) (c : CtxNum) (x : Ctx) : (s.setCtx c x).alerts = s.alerts := rfl
@[simp] theorem State.setCtx_stage (s : State) (c : CtxNum) (x : Ctx) : (s.setCtx c x).stage = s.stage := rfl
@[simp] theorem State.setCtx_fifo (s : State) (c : CtxNum) (x : Ctx) : (s.setCtx c x).fifo = s.fifo := rfl
@[simp] theorem State.setCtx_memTop (s : State) (c : CtxNum) (x : Ctx) : (s.setCtx c x).memTop = s.memTop := rfl
@[simp] theorem State.setCtx_policy (s : State) (c : CtxNum) (x : Ctx) : (s.setCtx c x).policy = s.policy := rfl
@[simp] theorem State.setCtx_defaultQuota (s : State) (c : CtxNum) (x : Ctx) : (s.setCtx c x).defaultQuota = s.defaultQuota := rfl
@[simp] theorem State.setCtx_tickPeriod (s : State) (c : CtxNum) (x : Ctx) : (s.setCtx c x).tickPeriod = s.tickPeriod := rfl
@[simp] theorem State.setCtx_noticeInterval (s : State) (c : CtxNum) (x : Ctx) : (s.setCtx c x).noticeInterval = s.noticeInterval := rfl
@[simp] theorem State.setCtx_noticeTries (s : State) (c : CtxNum) (x : Ctx) : (s.setCtx c x).noticeTries = s.noticeTries := rfl
@[simp] theorem State.setCtx_tickPhase (s : State) (c : CtxNum) (x : Ctx) : (s.setCtx c x).tickPhase = s.tickPhase := rfl
@[simp] theorem State.setCtx_grants (s : State) (c : CtxNum) (x : Ctx) : (s.setCtx c x).grants = s.grants := rfl
@[simp] theorem State.setCtx_freeList (s : State) (c : CtxNum) (x : Ctx) : (s.setCtx c x).freeList = s.freeList := rfl
@[simp] theorem State.setCtx_index (s : State) (c : CtxNum) (x : Ctx) : (s.setCtx c x).index = s.index := rfl
@[simp] theorem State.setCtx_slots (s : State) (c : CtxNum) (x : Ctx) : (s.setCtx c x).slots = s.slots := rfl
@[simp] theorem State.setCtx_immCount (s : State) (c : CtxNum) (x : Ctx) : (s.setCtx c x).immCount = s.immCount := rfl
@[simp] theorem State.setCtx_port (s : State) (c : CtxNum) (x : Ctx) : (s.setCtx c x).port = s.port := rfl
@[simp] theorem State.setCtx_lastServed (s : State) (c : CtxNum) (x : Ctx) : (s.setCtx c x).lastServed = s.lastServed := rfl
@[simp] theorem State.setCtx_nodeMem (s : State) (c : CtxNum) (x : Ctx) : (s.setCtx c x).nodeMem = s.nodeMem := rfl
@[simp] theorem State.setCtx_offers (s : State) (c : CtxNum) (x : Ctx) : (s.setCtx c x).offers = s.offers := rfl
@[simp] theorem State.setCtx_link (s : State) (c : CtxNum) (x : Ctx) : (s.setCtx c x).link = s.link := rfl
@[simp] theorem State.setCtx_self (s : State) (c : CtxNum) (x : Ctx) : (s.setCtx c x).self = s.self := rfl
@[simp] theorem State.setCtx_trainingTime (s : State) (c : CtxNum) (x : Ctx) : (s.setCtx c x).trainingTime = s.trainingTime := rfl
@[simp] theorem State.setCtx_receiving (s : State) (c : CtxNum) (x : Ctx) : (s.setCtx c x).receiving = s.receiving := rfl
@[simp] theorem State.setCtx_replyQ (s : State) (c : CtxNum) (x : Ctx) : (s.setCtx c x).replyQ = s.replyQ := rfl
@[simp] theorem State.setCtx_tx (s : State) (c : CtxNum) (x : Ctx) : (s.setCtx c x).tx = s.tx := rfl
@[simp] theorem State.setCtx_cq (s : State) (c : CtxNum) (x : Ctx) : (s.setCtx c x).cq = s.cq := rfl
@[simp] theorem State.setCtx_backlog (s : State) (c : CtxNum) (x : Ctx) : (s.setCtx c x).backlog = s.backlog := rfl
@[simp] theorem State.setCtx_hold (s : State) (c : CtxNum) (x : Ctx) : (s.setCtx c x).hold = s.hold := rfl
@[simp] theorem State.setCtx_freeze (s : State) (c : CtxNum) (x : Ctx) : (s.setCtx c x).freeze = s.freeze := rfl
@[simp] theorem State.setCtx_pending (s : State) (c : CtxNum) (x : Ctx) : (s.setCtx c x).pending = s.pending := rfl

/-! ### `enter` -/

@[simp] theorem State.enter_resetnLow (s : State) (c : CtxNum) (st : CtxState) : (s.enter c st).resetnLow = s.resetnLow := rfl
@[simp] theorem State.enter_supplyOut (s : State) (c : CtxNum) (st : CtxState) : (s.enter c st).supplyOut = s.supplyOut := rfl
@[simp] theorem State.enter_linkEnable (s : State) (c : CtxNum) (st : CtxState) : (s.enter c st).linkEnable = s.linkEnable := rfl
@[simp] theorem State.enter_enables (s : State) (c : CtxNum) (st : CtxState) : (s.enter c st).enables = s.enables := rfl
@[simp] theorem State.enter_alerts (s : State) (c : CtxNum) (st : CtxState) : (s.enter c st).alerts = s.alerts := rfl
@[simp] theorem State.enter_stage (s : State) (c : CtxNum) (st : CtxState) : (s.enter c st).stage = s.stage := rfl
@[simp] theorem State.enter_fifo (s : State) (c : CtxNum) (st : CtxState) : (s.enter c st).fifo = s.fifo := rfl
@[simp] theorem State.enter_memTop (s : State) (c : CtxNum) (st : CtxState) : (s.enter c st).memTop = s.memTop := rfl
@[simp] theorem State.enter_policy (s : State) (c : CtxNum) (st : CtxState) : (s.enter c st).policy = s.policy := rfl
@[simp] theorem State.enter_defaultQuota (s : State) (c : CtxNum) (st : CtxState) : (s.enter c st).defaultQuota = s.defaultQuota := rfl
@[simp] theorem State.enter_tickPeriod (s : State) (c : CtxNum) (st : CtxState) : (s.enter c st).tickPeriod = s.tickPeriod := rfl
@[simp] theorem State.enter_noticeInterval (s : State) (c : CtxNum) (st : CtxState) : (s.enter c st).noticeInterval = s.noticeInterval := rfl
@[simp] theorem State.enter_noticeTries (s : State) (c : CtxNum) (st : CtxState) : (s.enter c st).noticeTries = s.noticeTries := rfl
@[simp] theorem State.enter_tickPhase (s : State) (c : CtxNum) (st : CtxState) : (s.enter c st).tickPhase = s.tickPhase := rfl
@[simp] theorem State.enter_grants (s : State) (c : CtxNum) (st : CtxState) : (s.enter c st).grants = s.grants := rfl
@[simp] theorem State.enter_freeList (s : State) (c : CtxNum) (st : CtxState) : (s.enter c st).freeList = s.freeList := rfl
@[simp] theorem State.enter_index (s : State) (c : CtxNum) (st : CtxState) : (s.enter c st).index = s.index := rfl
@[simp] theorem State.enter_slots (s : State) (c : CtxNum) (st : CtxState) : (s.enter c st).slots = s.slots := rfl
@[simp] theorem State.enter_immCount (s : State) (c : CtxNum) (st : CtxState) : (s.enter c st).immCount = s.immCount := rfl
@[simp] theorem State.enter_port (s : State) (c : CtxNum) (st : CtxState) : (s.enter c st).port = s.port := rfl
@[simp] theorem State.enter_lastServed (s : State) (c : CtxNum) (st : CtxState) : (s.enter c st).lastServed = s.lastServed := rfl
@[simp] theorem State.enter_nodeMem (s : State) (c : CtxNum) (st : CtxState) : (s.enter c st).nodeMem = s.nodeMem := rfl
@[simp] theorem State.enter_offers (s : State) (c : CtxNum) (st : CtxState) : (s.enter c st).offers = s.offers := rfl
@[simp] theorem State.enter_link (s : State) (c : CtxNum) (st : CtxState) : (s.enter c st).link = s.link := rfl
@[simp] theorem State.enter_self (s : State) (c : CtxNum) (st : CtxState) : (s.enter c st).self = s.self := rfl
@[simp] theorem State.enter_trainingTime (s : State) (c : CtxNum) (st : CtxState) : (s.enter c st).trainingTime = s.trainingTime := rfl
@[simp] theorem State.enter_receiving (s : State) (c : CtxNum) (st : CtxState) : (s.enter c st).receiving = s.receiving := rfl
@[simp] theorem State.enter_replyQ (s : State) (c : CtxNum) (st : CtxState) : (s.enter c st).replyQ = s.replyQ := rfl
@[simp] theorem State.enter_tx (s : State) (c : CtxNum) (st : CtxState) : (s.enter c st).tx = s.tx := rfl
@[simp] theorem State.enter_cq (s : State) (c : CtxNum) (st : CtxState) : (s.enter c st).cq = s.cq := rfl
@[simp] theorem State.enter_backlog (s : State) (c : CtxNum) (st : CtxState) : (s.enter c st).backlog = s.backlog := rfl
@[simp] theorem State.enter_hold (s : State) (c : CtxNum) (st : CtxState) : (s.enter c st).hold = s.hold := rfl
@[simp] theorem State.enter_freeze (s : State) (c : CtxNum) (st : CtxState) : (s.enter c st).freeze = s.freeze := rfl
@[simp] theorem State.enter_pending (s : State) (c : CtxNum) (st : CtxState) : (s.enter c st).pending = s.pending := rfl

/-! ### `placeRecord` -/

@[simp] theorem placeRecord_resetnLow (s : State) (c : Completion) : (placeRecord c s).resetnLow = s.resetnLow := rfl
@[simp] theorem placeRecord_supplyOut (s : State) (c : Completion) : (placeRecord c s).supplyOut = s.supplyOut := rfl
@[simp] theorem placeRecord_linkEnable (s : State) (c : Completion) : (placeRecord c s).linkEnable = s.linkEnable := rfl
@[simp] theorem placeRecord_enables (s : State) (c : Completion) : (placeRecord c s).enables = s.enables := rfl
@[simp] theorem placeRecord_alerts (s : State) (c : Completion) : (placeRecord c s).alerts = s.alerts := rfl
@[simp] theorem placeRecord_stage (s : State) (c : Completion) : (placeRecord c s).stage = s.stage := rfl
@[simp] theorem placeRecord_fifo (s : State) (c : Completion) : (placeRecord c s).fifo = s.fifo := rfl
@[simp] theorem placeRecord_memTop (s : State) (c : Completion) : (placeRecord c s).memTop = s.memTop := rfl
@[simp] theorem placeRecord_policy (s : State) (c : Completion) : (placeRecord c s).policy = s.policy := rfl
@[simp] theorem placeRecord_defaultQuota (s : State) (c : Completion) : (placeRecord c s).defaultQuota = s.defaultQuota := rfl
@[simp] theorem placeRecord_tickPeriod (s : State) (c : Completion) : (placeRecord c s).tickPeriod = s.tickPeriod := rfl
@[simp] theorem placeRecord_noticeInterval (s : State) (c : Completion) : (placeRecord c s).noticeInterval = s.noticeInterval := rfl
@[simp] theorem placeRecord_noticeTries (s : State) (c : Completion) : (placeRecord c s).noticeTries = s.noticeTries := rfl
@[simp] theorem placeRecord_tickPhase (s : State) (c : Completion) : (placeRecord c s).tickPhase = s.tickPhase := rfl
@[simp] theorem placeRecord_grants (s : State) (c : Completion) : (placeRecord c s).grants = s.grants := rfl
@[simp] theorem placeRecord_freeList (s : State) (c : Completion) : (placeRecord c s).freeList = s.freeList := rfl
@[simp] theorem placeRecord_index (s : State) (c : Completion) : (placeRecord c s).index = s.index := rfl
@[simp] theorem placeRecord_slots (s : State) (c : Completion) : (placeRecord c s).slots = s.slots := rfl
@[simp] theorem placeRecord_immCount (s : State) (c : Completion) : (placeRecord c s).immCount = s.immCount := rfl
@[simp] theorem placeRecord_ctxs (s : State) (c : Completion) : (placeRecord c s).ctxs = s.ctxs := rfl
@[simp] theorem placeRecord_port (s : State) (c : Completion) : (placeRecord c s).port = s.port := rfl
@[simp] theorem placeRecord_lastServed (s : State) (c : Completion) : (placeRecord c s).lastServed = s.lastServed := rfl
@[simp] theorem placeRecord_nodeMem (s : State) (c : Completion) : (placeRecord c s).nodeMem = s.nodeMem := rfl
@[simp] theorem placeRecord_offers (s : State) (c : Completion) : (placeRecord c s).offers = s.offers := rfl
@[simp] theorem placeRecord_link (s : State) (c : Completion) : (placeRecord c s).link = s.link := rfl
@[simp] theorem placeRecord_self (s : State) (c : Completion) : (placeRecord c s).self = s.self := rfl
@[simp] theorem placeRecord_trainingTime (s : State) (c : Completion) : (placeRecord c s).trainingTime = s.trainingTime := rfl
@[simp] theorem placeRecord_receiving (s : State) (c : Completion) : (placeRecord c s).receiving = s.receiving := rfl
@[simp] theorem placeRecord_replyQ (s : State) (c : Completion) : (placeRecord c s).replyQ = s.replyQ := rfl
@[simp] theorem placeRecord_tx (s : State) (c : Completion) : (placeRecord c s).tx = s.tx := rfl
@[simp] theorem placeRecord_backlog (s : State) (c : Completion) : (placeRecord c s).backlog = s.backlog := rfl
@[simp] theorem placeRecord_hold (s : State) (c : Completion) : (placeRecord c s).hold = s.hold := rfl
@[simp] theorem placeRecord_freeze (s : State) (c : Completion) : (placeRecord c s).freeze = s.freeze := rfl
@[simp] theorem placeRecord_pending (s : State) (c : Completion) : (placeRecord c s).pending = s.pending := rfl

/-! ### `joinBacklog` -/

@[simp] theorem joinBacklog_resetnLow (s : State) (e : Event) : (joinBacklog e s).resetnLow = s.resetnLow := rfl
@[simp] theorem joinBacklog_supplyOut (s : State) (e : Event) : (joinBacklog e s).supplyOut = s.supplyOut := rfl
@[simp] theorem joinBacklog_linkEnable (s : State) (e : Event) : (joinBacklog e s).linkEnable = s.linkEnable := rfl
@[simp] theorem joinBacklog_enables (s : State) (e : Event) : (joinBacklog e s).enables = s.enables := rfl
@[simp] theorem joinBacklog_stage (s : State) (e : Event) : (joinBacklog e s).stage = s.stage := rfl
@[simp] theorem joinBacklog_fifo (s : State) (e : Event) : (joinBacklog e s).fifo = s.fifo := rfl
@[simp] theorem joinBacklog_memTop (s : State) (e : Event) : (joinBacklog e s).memTop = s.memTop := rfl
@[simp] theorem joinBacklog_policy (s : State) (e : Event) : (joinBacklog e s).policy = s.policy := rfl
@[simp] theorem joinBacklog_defaultQuota (s : State) (e : Event) : (joinBacklog e s).defaultQuota = s.defaultQuota := rfl
@[simp] theorem joinBacklog_tickPeriod (s : State) (e : Event) : (joinBacklog e s).tickPeriod = s.tickPeriod := rfl
@[simp] theorem joinBacklog_noticeInterval (s : State) (e : Event) : (joinBacklog e s).noticeInterval = s.noticeInterval := rfl
@[simp] theorem joinBacklog_noticeTries (s : State) (e : Event) : (joinBacklog e s).noticeTries = s.noticeTries := rfl
@[simp] theorem joinBacklog_tickPhase (s : State) (e : Event) : (joinBacklog e s).tickPhase = s.tickPhase := rfl
@[simp] theorem joinBacklog_grants (s : State) (e : Event) : (joinBacklog e s).grants = s.grants := rfl
@[simp] theorem joinBacklog_freeList (s : State) (e : Event) : (joinBacklog e s).freeList = s.freeList := rfl
@[simp] theorem joinBacklog_index (s : State) (e : Event) : (joinBacklog e s).index = s.index := rfl
@[simp] theorem joinBacklog_slots (s : State) (e : Event) : (joinBacklog e s).slots = s.slots := rfl
@[simp] theorem joinBacklog_immCount (s : State) (e : Event) : (joinBacklog e s).immCount = s.immCount := rfl
@[simp] theorem joinBacklog_ctxs (s : State) (e : Event) : (joinBacklog e s).ctxs = s.ctxs := rfl
@[simp] theorem joinBacklog_port (s : State) (e : Event) : (joinBacklog e s).port = s.port := rfl
@[simp] theorem joinBacklog_lastServed (s : State) (e : Event) : (joinBacklog e s).lastServed = s.lastServed := rfl
@[simp] theorem joinBacklog_nodeMem (s : State) (e : Event) : (joinBacklog e s).nodeMem = s.nodeMem := rfl
@[simp] theorem joinBacklog_offers (s : State) (e : Event) : (joinBacklog e s).offers = s.offers := rfl
@[simp] theorem joinBacklog_link (s : State) (e : Event) : (joinBacklog e s).link = s.link := rfl
@[simp] theorem joinBacklog_self (s : State) (e : Event) : (joinBacklog e s).self = s.self := rfl
@[simp] theorem joinBacklog_trainingTime (s : State) (e : Event) : (joinBacklog e s).trainingTime = s.trainingTime := rfl
@[simp] theorem joinBacklog_receiving (s : State) (e : Event) : (joinBacklog e s).receiving = s.receiving := rfl
@[simp] theorem joinBacklog_replyQ (s : State) (e : Event) : (joinBacklog e s).replyQ = s.replyQ := rfl
@[simp] theorem joinBacklog_tx (s : State) (e : Event) : (joinBacklog e s).tx = s.tx := rfl
@[simp] theorem joinBacklog_cq (s : State) (e : Event) : (joinBacklog e s).cq = s.cq := rfl
@[simp] theorem joinBacklog_hold (s : State) (e : Event) : (joinBacklog e s).hold = s.hold := rfl
@[simp] theorem joinBacklog_freeze (s : State) (e : Event) : (joinBacklog e s).freeze = s.freeze := rfl
@[simp] theorem joinBacklog_pending (s : State) (e : Event) : (joinBacklog e s).pending = s.pending := rfl

@[simp] theorem placeRecord_cq (s : State) (c : Completion) : (placeRecord c s).cq = s.cq ++ [c] := rfl
@[simp] theorem joinBacklog_backlog (s : State) (e : Event) : (joinBacklog e s).backlog = s.backlog ++ [e] := rfl
@[simp] theorem joinBacklog_alerts (s : State) (e : Event) :
    (joinBacklog e s).alerts = { s.alerts with backlog := true } := rfl

/-! ### Records read back -/

@[simp] theorem State.grant_setGrant_self (s : State) (g : GrantNum) (x : Grant) : (s.setGrant g x).grant g = x := by
  simp [State.grant, State.setGrant]

theorem State.grant_setGrant_ne (s : State) {g h : GrantNum} (x : Grant) (hne : g ≠ h) :
    (s.setGrant g x).grant h = s.grant h := by
  have : g.val ≠ h.val := fun e => hne (Fin.ext e)
  simp [State.grant, State.setGrant, Vector.getElem_set_ne, this]

theorem State.grant_setGrant (s : State) (g h : GrantNum) (x : Grant) :
    (s.setGrant g x).grant h = if g = h then x else s.grant h := by
  by_cases e : g = h
  · subst e; simp
  · simp [e, State.grant_setGrant_ne s x e]

@[simp] theorem State.grant_setBody_self (s : State) (g : GrantNum) (b : Body) :
    (s.setBody g b).grant g = { s.grant g with body := b } := by
  simp [State.setBody]

theorem State.grant_setBody (s : State) (g h : GrantNum) (b : Body) :
    (s.setBody g b).grant h = if g = h then { s.grant g with body := b } else s.grant h := by
  simp [State.setBody, State.grant_setGrant]

@[simp] theorem State.slot_setSlot_self (s : State) (sl : SlotNum) (x : Slot) : (s.setSlot sl x).slot sl = x := by
  simp [State.slot, State.setSlot]

theorem State.slot_setSlot (s : State) (sl tl : SlotNum) (x : Slot) :
    (s.setSlot sl x).slot tl = if sl = tl then x else s.slot tl := by
  by_cases e : sl = tl
  · subst e; simp
  · have : sl.val ≠ tl.val := fun h => e (Fin.ext h)
    simp [e, State.slot, State.setSlot, Vector.getElem_set_ne, this]

theorem State.slot_modifyRecord (s : State) (sl tl : SlotNum) (f : Station → Station) :
    (s.modifyRecord sl f).slot tl =
      if sl = tl then { s.slot sl with record := (s.slot sl).record.map f } else s.slot tl := by
  simp [State.modifyRecord, State.slot_setSlot]

@[simp] theorem State.slot_modifyRecord_self (s : State) (sl : SlotNum) (f : Station → Station) :
    (s.modifyRecord sl f).slot sl = { s.slot sl with record := (s.slot sl).record.map f } := by
  simp [State.slot_modifyRecord]

@[simp] theorem State.ctx_setCtx_self (s : State) (c : CtxNum) (x : Ctx) : (s.setCtx c x).ctx c = x := by
  simp [State.ctx, State.setCtx]

theorem State.ctx_setCtx (s : State) (c d : CtxNum) (x : Ctx) :
    (s.setCtx c x).ctx d = if c = d then x else s.ctx d := by
  by_cases e : c = d
  · subst e; simp
  · have : c.val ≠ d.val := fun h => e (Fin.ext h)
    simp [e, State.ctx, State.setCtx, Vector.getElem_set_ne, this]

@[simp] theorem State.ctx_enter_self (s : State) (c : CtxNum) (st : CtxState) :
    (s.enter c st).ctx c = { s.ctx c with state := st } := by
  simp [State.enter]

theorem State.ctx_enter (s : State) (c d : CtxNum) (st : CtxState) :
    (s.enter c st).ctx d = if c = d then { s.ctx c with state := st } else s.ctx d := by
  simp [State.enter, State.ctx_setCtx]

/-! ### Records that another table's update leaves -/

@[simp] theorem State.grant_setSlot_other (s : State) (sl' : SlotNum) (x : Slot) (g : GrantNum) : (s.setSlot sl' x).grant g = s.grant g := rfl
@[simp] theorem State.grant_modifyRecord_other (s : State) (sl' : SlotNum) (f : Station → Station) (g : GrantNum) : (s.modifyRecord sl' f).grant g = s.grant g := rfl
@[simp] theorem State.grant_setCtx_other (s : State) (c' : CtxNum) (x : Ctx) (g : GrantNum) : (s.setCtx c' x).grant g = s.grant g := rfl
@[simp] theorem State.grant_enter_other (s : State) (c' : CtxNum) (st : CtxState) (g : GrantNum) : (s.enter c' st).grant g = s.grant g := rfl
@[simp] theorem State.grant_placeRecord_other (s : State) (r : Completion) (g : GrantNum) : (placeRecord r s).grant g = s.grant g := rfl
@[simp] theorem State.grant_joinBacklog_other (s : State) (e : Event) (g : GrantNum) : (joinBacklog e s).grant g = s.grant g := rfl
@[simp] theorem State.slot_setGrant_other (s : State) (g' : GrantNum) (x : Grant) (sl : SlotNum) : (s.setGrant g' x).slot sl = s.slot sl := rfl
@[simp] theorem State.slot_setBody_other (s : State) (g' : GrantNum) (b : Body) (sl : SlotNum) : (s.setBody g' b).slot sl = s.slot sl := rfl
@[simp] theorem State.slot_setCtx_other (s : State) (c' : CtxNum) (x : Ctx) (sl : SlotNum) : (s.setCtx c' x).slot sl = s.slot sl := rfl
@[simp] theorem State.slot_enter_other (s : State) (c' : CtxNum) (st : CtxState) (sl : SlotNum) : (s.enter c' st).slot sl = s.slot sl := rfl
@[simp] theorem State.slot_placeRecord_other (s : State) (r : Completion) (sl : SlotNum) : (placeRecord r s).slot sl = s.slot sl := rfl
@[simp] theorem State.slot_joinBacklog_other (s : State) (e : Event) (sl : SlotNum) : (joinBacklog e s).slot sl = s.slot sl := rfl
@[simp] theorem State.ctx_setGrant_other (s : State) (g' : GrantNum) (x : Grant) (c : CtxNum) : (s.setGrant g' x).ctx c = s.ctx c := rfl
@[simp] theorem State.ctx_setBody_other (s : State) (g' : GrantNum) (b : Body) (c : CtxNum) : (s.setBody g' b).ctx c = s.ctx c := rfl
@[simp] theorem State.ctx_setSlot_other (s : State) (sl' : SlotNum) (x : Slot) (c : CtxNum) : (s.setSlot sl' x).ctx c = s.ctx c := rfl
@[simp] theorem State.ctx_modifyRecord_other (s : State) (sl' : SlotNum) (f : Station → Station) (c : CtxNum) : (s.modifyRecord sl' f).ctx c = s.ctx c := rfl
@[simp] theorem State.ctx_placeRecord_other (s : State) (r : Completion) (c : CtxNum) : (placeRecord r s).ctx c = s.ctx c := rfl
@[simp] theorem State.ctx_joinBacklog_other (s : State) (e : Event) (c : CtxNum) : (joinBacklog e s).ctx c = s.ctx c := rfl

/-! ### The vectors of records as functions of the record number -/

/-- Two grant tables with the same records are the same. -/
theorem grants_ext {s t : State} (h : ∀ g, s.grant g = t.grant g) : s.grants = t.grants :=
  Vector.ext fun i hi => h ⟨i, hi⟩

/-- Two station tables with the same slots are the same. -/
theorem slots_ext {s t : State} (h : ∀ sl, s.slot sl = t.slot sl) : s.slots = t.slots :=
  Vector.ext fun i hi => h ⟨i, hi⟩

/-- Two sets of contexts with the same contexts are the same. -/
theorem ctxs_ext {s t : State} (h : ∀ c, s.ctx c = t.ctx c) : s.ctxs = t.ctxs :=
  Vector.ext fun i hi => h ⟨i, hi⟩

end Sys2Proof.Machine
end

