-- ==== Sys2Proof/Laws/Ops.lean ====
section
/-! SUPPORT. For each shared operation of Machine/Ops.lean: what it answers in each case, and, in the lemmas named
`…_only`, the fields it may change at all. -/

namespace Sys2Proof.Machine

/-! ### Hand-over to the completion queue -/

/-- A station count changes in the station table only. -/
theorem changeHeld_only (f : Nat → Nat) (h : Holder) (s : State) :
    ∃ slots, changeHeld f h s = { s with slots := slots } := by
  unfold changeHeld
  split
  · exact ⟨_, rfl⟩
  · split <;> exact ⟨_, rfl⟩

/-- Freeing an entry acts on the grant table, its lists and the station table only (R22). -/
theorem freeGrant_only (g : GrantNum) (h : Holder) (s : State) :
    ∃ grants index freeList slots,
      freeGrant g h s = { s with grants := grants, index := index, freeList := freeList, slots := slots } := by
  unfold freeGrant
  obtain ⟨slots, hs⟩ := changeHeld_only (fun n => n - 1) h
    { s.setGrant g { gen := (s.grant g).gen + 1, inFlight := 0, body := .free } with
      index := s.index.filter (fun h => h != g)
      freeList := s.freeList ++ [g] }
  rw [hs]
  exact ⟨_, _, _, _, rfl⟩

/-- Freeing an entry appends it to the free list (R22, step 3). -/
theorem freeGrant_freeList (g : GrantNum) (h : Holder) (s : State) :
    (freeGrant g h s).freeList = s.freeList ++ [g] := by
  unfold freeGrant
  obtain ⟨slots, hs⟩ := changeHeld_only (fun n => n - 1) h
    { s.setGrant g { gen := (s.grant g).gen + 1, inFlight := 0, body := .free } with
      index := s.index.filter (fun h => h != g)
      freeList := s.freeList ++ [g] }
  rw [hs]

/-- Freeing an entry removes it from the window index (R22, step 2). -/
theorem freeGrant_index (g : GrantNum) (h : Holder) (s : State) :
    (freeGrant g h s).index = s.index.filter (fun h => h != g) := by
  unfold freeGrant
  obtain ⟨slots, hs⟩ := changeHeld_only (fun n => n - 1) h
    { s.setGrant g { gen := (s.grant g).gen + 1, inFlight := 0, body := .free } with
      index := s.index.filter (fun h => h != g)
      freeList := s.freeList ++ [g] }
  rw [hs]

/-- Freeing an entry leaves it FREE under its next generation, and every other entry as it was (R22, steps 1 and 5). -/
theorem freeGrant_grant (g h : GrantNum) (ho : Holder) (s : State) :
    (freeGrant g ho s).grant h =
      if g = h then { gen := (s.grant g).gen + 1, inFlight := 0, body := .free } else s.grant h := by
  have : (freeGrant g ho s).grants =
      (s.setGrant g { gen := (s.grant g).gen + 1, inFlight := 0, body := .free }).grants := by
    unfold freeGrant
    obtain ⟨slots, hs⟩ := changeHeld_only (fun n => n - 1) ho
      { s.setGrant g { gen := (s.grant g).gen + 1, inFlight := 0, body := .free } with
        index := s.index.filter (fun h => h != g)
        freeList := s.freeList ++ [g] }
    rw [hs]
  rw [← State.grant_setGrant]
  simp only [State.grant, this]

/-- A CLOSING grant retires: its record is placed behind the ones in the queue, and its entry is freed (R39). -/
theorem retire_closing {g : GrantNum} {s : State} {t : Terms} {c : Closing} (h : (s.grant g).body = .closing t c) :
    retire g s =
      placeRecord (.retired g (s.grant g).gen t.holder c.cause c.notice t.cookie) (freeGrant g t.holder s) := by
  simp [retire, h]

/-- A grant that is not CLOSING does not retire. -/
theorem retire_not_closing {g : GrantNum} {s : State} (h : ∀ t c, (s.grant g).body ≠ .closing t c) : retire g s = s := by
  unfold retire
  split
  · rename_i t c hb; exact absurd hb (h t c)
  · rfl
  · rfl

/-- Retirement acts on the grant table, its lists, the station table and the completion queue only. -/
theorem retire_only (g : GrantNum) (s : State) :
    ∃ grants index freeList slots cq,
      retire g s = { s with grants := grants, index := index, freeList := freeList, slots := slots, cq := cq } := by
  unfold retire
  split
  · obtain ⟨a, b, c, d, h⟩ := freeGrant_only g _ s
    rw [h]
    exact ⟨_, _, _, _, _, rfl⟩
  · exact ⟨_, _, _, _, _, rfl⟩
  · exact ⟨_, _, _, _, _, rfl⟩

/-- Setting a retire wait acts on the grant table only. -/
theorem setRetireWait_only (g : GrantNum) (s : State) : ∃ grants, setRetireWait g s = { s with grants := grants } := by
  unfold setRetireWait
  split
  · exact ⟨_, rfl⟩
  · exact ⟨_, rfl⟩
  · exact ⟨_, rfl⟩

/-- A grant that is not ready is left as it is by the test (R35). -/
theorem testReady_not_ready {g : GrantNum} {s : State} (h : (s.grant g).isReady = false) : testReady g s = s := by
  simp [testReady, h]

/-- A ready grant retires at once when the backlog is empty and a slot is free (R35, R167). -/
theorem testReady_retires {g : GrantNum} {s : State} (h : (s.grant g).isReady = true) (hf : s.slotFree = true) :
    testReady g s = retire g s := by
  simp [testReady, h, hf]

/-- A ready grant joins the backlog otherwise, with its retire wait set (R35, R167). -/
theorem testReady_waits {g : GrantNum} {s : State} (h : (s.grant g).isReady = true) (hf : s.slotFree = false) :
    testReady g s = joinBacklog (.grant g) (setRetireWait g s) := by
  simp [testReady, h, hf]

/-- The test for readiness acts on the grant table, its lists, the station table, the completion queue, the backlog and
the alerts only. -/
theorem testReady_only (g : GrantNum) (s : State) :
    ∃ grants index freeList slots cq backlog alerts,
      testReady g s = { s with
        grants := grants, index := index, freeList := freeList, slots := slots, cq := cq, backlog := backlog,
        alerts := alerts } := by
  unfold testReady
  split
  · split
    · obtain ⟨a, b, c, d, e, h⟩ := retire_only g s
      rw [h]
      exact ⟨_, _, _, _, _, _, _, rfl⟩
    · obtain ⟨a, h⟩ := setRetireWait_only g s
      rw [h]
      exact ⟨_, _, _, _, _, _, _, rfl⟩
  · exact ⟨_, _, _, _, _, _, _, rfl⟩

/-- Tests for readiness in turn act on the same fields only. -/
theorem testReadyAll_only (gs : List GrantNum) (s : State) :
    ∃ grants index freeList slots cq backlog alerts,
      testReadyAll gs s = { s with
        grants := grants, index := index, freeList := freeList, slots := slots, cq := cq, backlog := backlog,
        alerts := alerts } := by
  induction gs generalizing s with
  | nil => exact ⟨_, _, _, _, _, _, _, rfl⟩
  | cons g gs ih =>
    obtain ⟨a, b, c, d, e, f, i, h⟩ := testReady_only g s
    obtain ⟨a', b', c', d', e', f', i', h'⟩ := ih (testReady g s)
    refine ⟨a', b', c', d', e', f', i', ?_⟩
    show testReadyAll gs (testReady g s) = _
    rw [h', h]

@[simp] theorem testReadyAll_nil (s : State) : testReadyAll [] s = s := rfl

@[simp] theorem testReadyAll_cons (g : GrantNum) (gs : List GrantNum) (s : State) :
    testReadyAll (g :: gs) s = testReadyAll gs (testReady g s) := rfl

/-- STATION_ADMITTED is placed when the backlog is empty and a slot is free (R55). -/
theorem handAdmitted_places {sl : SlotNum} {n : StationNum} {s : State} (h : s.slotFree = true) :
    handAdmitted sl n s = placeRecord (.admitted n sl) s := by
  simp [handAdmitted, h]

/-- STATION_ADMITTED acts on the station table, the completion queue, the backlog and the alerts only. -/
theorem handAdmitted_only (sl : SlotNum) (n : StationNum) (s : State) :
    ∃ slots cq backlog alerts,
      handAdmitted sl n s = { s with slots := slots, cq := cq, backlog := backlog, alerts := alerts } := by
  unfold handAdmitted
  split <;> exact ⟨_, _, _, _, rfl⟩

/-- STATION_RESTARTED is placed when none is waiting, the backlog is empty and a slot is free (R55). -/
theorem handRestarted_places {sl : SlotNum} {r : Station} {epoch : BitVec 16} {swept : Nat} {s : State}
    (hw : r.restartWaiting = none) (h : s.slotFree = true) :
    handRestarted sl r epoch swept s = placeRecord (.restarted r.number epoch swept 1) s := by
  simp [handRestarted, h, hw]

/-- STATION_RESTARTED acts on the station table, the completion queue, the backlog and the alerts only. -/
theorem handRestarted_only (sl : SlotNum) (r : Station) (epoch : BitVec 16) (swept : Nat) (s : State) :
    ∃ slots cq backlog alerts,
      handRestarted sl r epoch swept s = { s with slots := slots, cq := cq, backlog := backlog, alerts := alerts } := by
  unfold handRestarted
  split
  · exact ⟨_, _, _, _, rfl⟩
  · split <;> exact ⟨_, _, _, _, rfl⟩

/-- HOLD_REACHED acts on the completion queue, the backlog and the alerts only. -/
theorem handHoldReached_only (s : State) :
    ∃ cq backlog alerts, handHoldReached s = { s with cq := cq, backlog := backlog, alerts := alerts } := by
  unfold handHoldReached
  split <;> exact ⟨_, _, _, rfl⟩

/-- Placing a backlog entry acts on the grant table, its lists, the station table and the completion queue only. -/
theorem placeEvent_only (e : Event) (s : State) :
    ∃ grants index freeList slots cq,
      placeEvent e s = { s with grants := grants, index := index, freeList := freeList, slots := slots, cq := cq } := by
  cases e with
  | grant g => exact retire_only g s
  | admitted sl => simp only [placeEvent]; split <;> exact ⟨_, _, _, _, _, rfl⟩
  | restarted sl =>
    simp only [placeEvent]
    split
    · split <;> exact ⟨_, _, _, _, _, rfl⟩
    · exact ⟨_, _, _, _, _, rfl⟩
  | holdReached => exact ⟨_, _, _, _, _, rfl⟩

/-- Giving a free slot to the backlog acts on those fields and the backlog only. -/
theorem placeBacklogHead_only (s : State) :
    ∃ grants index freeList slots cq backlog,
      placeBacklogHead s = { s with
        grants := grants, index := index, freeList := freeList, slots := slots, cq := cq, backlog := backlog } := by
  unfold placeBacklogHead
  split
  · exact ⟨_, _, _, _, _, _, rfl⟩
  · split
    · rename_i e rest _ _
      obtain ⟨a, b, c, d, f, h⟩ := placeEvent_only e { s with backlog := rest }
      rw [h]
      exact ⟨_, _, _, _, _, _, rfl⟩
    · exact ⟨_, _, _, _, _, _, rfl⟩

/-! ### Hold Control and the transmitter -/

/-- A drain whose contexts are all IDLE ends in HELD (R176). -/
theorem drainTest_ends {s : State} (h : s.hold = .draining) (hi : s.allIdle = true) :
    drainTest s = handHoldReached { s with hold := .held } := by
  simp [drainTest, h, hi]

/-- Outside a drain, or with a context not IDLE, nothing happens. -/
theorem drainTest_stays {s : State} (h : s.hold ≠ .draining ∨ s.allIdle = false) : drainTest s = s := by
  unfold drainTest
  rw [if_neg]
  rintro ⟨h1, h2⟩
  rcases h with h | h
  · exact h h1
  · simp [h2] at h

/-- The end of a drain acts on the hold state, the completion queue, the backlog and the alerts only. -/
theorem drainTest_only (s : State) :
    ∃ hold cq backlog alerts, drainTest s = { s with hold := hold, cq := cq, backlog := backlog, alerts := alerts } := by
  unfold drainTest
  split
  · obtain ⟨a, b, c, h⟩ := handHoldReached_only { s with hold := .held }
    rw [h]
    exact ⟨_, _, _, _, rfl⟩
  · exact ⟨_, _, _, _, rfl⟩

/-- A busy transmitter takes nothing. -/
theorem txTake_busy {s : State} (h : s.tx ≠ .free) : txTake s = s := by
  simp [txTake, h]

/-- While the link is not UP the transmitter takes nothing. -/
theorem txTake_link_not_up {s : State} (h : s.link ≠ .up) : txTake s = s := by
  simp [txTake, h]

/-- A free transmitter takes the head of the reply queue first (R134). -/
theorem txTake_reply {s : State} {q : QueuedReply} {rest : List QueuedReply} (hl : s.link = .up) (ht : s.tx = .free)
    (hq : s.replyQ = q :: rest) : txTake s = { s with tx := .reply } := by
  simp [txTake, hl, ht, hq]

/-- With nothing waiting the transmitter stays free. -/
theorem txTake_idle {s : State} (hq : s.replyQ = []) (ho : s.offers = []) : txTake s = s := by
  unfold txTake
  split
  · rw [hq, ho]
  · rfl

/-- With the reply queue empty a free transmitter takes the first offered notice frame (R134). -/
theorem txTake_notice {s : State} {sl : SlotNum} {rest : List SlotNum} {f : NoticeFrame} (hl : s.link = .up)
    (ht : s.tx = .free) (hq : s.replyQ = []) (ho : s.offers = sl :: rest) (hf : (s.slot sl).frame = .offered f) :
    txTake s =
      { s.setSlot sl { s.slot sl with frame := .sending } with tx := .notice (some sl) f, offers := rest } := by
  simp [txTake, hl, ht, hq, ho, hf]

/-- The transmitter's choice acts on the transmitter, the station slots and the offer list only. -/
theorem txTake_only (s : State) :
    ∃ tx slots offers, txTake s = { s with tx := tx, slots := slots, offers := offers } := by
  unfold txTake
  split
  · split
    · exact ⟨_, _, _, rfl⟩
    · split
      · exact ⟨_, _, _, rfl⟩
      · split <;> exact ⟨_, _, _, rfl⟩
  · exact ⟨_, _, _, rfl⟩

/-! ### Closing and notices -/

/-- A notice joins a station slot's queue: the station table only. -/
theorem enqueueNotice_only (g : GrantNum) (h : Holder) (s : State) :
    ∃ slots, enqueueNotice g h s = { s with slots := slots } := by
  unfold enqueueNotice
  split
  · exact ⟨_, rfl⟩
  · split <;> exact ⟨_, rfl⟩

/-- The closing act on a LIVE grant that owes a notice (R32, R33). -/
theorem closeGrant_due {cause : Cause} {g : GrantNum} {s : State} {t : Terms} (h : (s.grant g).body = .live t)
    (hd : noticeDue cause t = true) :
    closeGrant cause g s = enqueueNotice g t.holder
      (s.setBody g (.closing t { cause := cause, notice := .queued, retireWait := false })) := by
  simp [closeGrant, h, hd]

/-- The closing act on a LIVE grant that owes none. -/
theorem closeGrant_not_due {cause : Cause} {g : GrantNum} {s : State} {t : Terms} (h : (s.grant g).body = .live t)
    (hd : noticeDue cause t = false) :
    closeGrant cause g s = s.setBody g (.closing t { cause := cause, notice := .notDue, retireWait := false }) := by
  simp [closeGrant, h, hd]

/-- The closing act works on the grant table and the station table only. -/
theorem closeGrant_only (cause : Cause) (g : GrantNum) (s : State) :
    ∃ grants slots, closeGrant cause g s = { s with grants := grants, slots := slots } := by
  unfold closeGrant
  split
  · rename_i t _
    split
    · obtain ⟨a, h⟩ := enqueueNotice_only g t.holder
        (s.setBody g (.closing t { cause := cause, notice := .queued, retireWait := false }))
      rw [h]
      exact ⟨_, _, rfl⟩
    · exact ⟨_, _, rfl⟩
  · exact ⟨_, _, rfl⟩
  · exact ⟨_, _, rfl⟩

/-- Closing acts in turn work on the same fields only. -/
theorem closeAll_only (cause : Cause) (gs : List GrantNum) (s : State) :
    ∃ grants slots, closeAll cause gs s = { s with grants := grants, slots := slots } := by
  induction gs generalizing s with
  | nil => exact ⟨_, _, rfl⟩
  | cons g gs ih =>
    obtain ⟨a, b, h⟩ := closeGrant_only cause g s
    obtain ⟨a', b', h'⟩ := ih (closeGrant cause g s)
    refine ⟨a', b', ?_⟩
    show closeAll cause gs (closeGrant cause g s) = _
    rw [h', h]

/-- A notice state changes in the grant table only. -/
theorem setNotice_only (g : GrantNum) (n : Notice) (s : State) : ∃ grants, setNotice g n s = { s with grants := grants } := by
  unfold setNotice
  split <;> exact ⟨_, rfl⟩

/-- Offering a frame acts on the station slots and the offer list only. -/
theorem offerFrame_only (sl : SlotNum) (s : State) :
    ∃ slots offers, offerFrame sl s = { s with slots := slots, offers := offers } := by
  unfold offerFrame
  split
  · exact ⟨_, _, rfl⟩
  · split <;> exact ⟨_, _, rfl⟩

/-- Offering a new head's frame acts on the same fields only. -/
theorem offerNewHead_only (sl : SlotNum) (s : State) :
    ∃ slots offers, offerNewHead sl s = { s with slots := slots, offers := offers } := by
  unfold offerNewHead
  split
  · exact offerFrame_only sl s
  · exact ⟨_, _, rfl⟩

/-- A resend acts on the same fields only. -/
theorem resendHead_only (sl : SlotNum) (s : State) :
    ∃ slots offers, resendHead sl s = { s with slots := slots, offers := offers } := by
  unfold resendHead
  split
  · exact offerFrame_only sl s
  · exact ⟨_, _, rfl⟩

/-- Counting an interval acts on the grant table only. -/
theorem countInterval_only (sl : SlotNum) (s : State) : ∃ grants, countInterval sl s = { s with grants := grants } := by
  unfold countInterval
  split
  · split
    · split
      · exact setNotice_only _ _ s
      · exact ⟨_, rfl⟩
    · exact ⟨_, rfl⟩
  · exact ⟨_, rfl⟩

/-- Withdrawing a frame acts on the station slots, the offer list and the transmitter only. -/
theorem withdrawFrame_only (sl : SlotNum) (s : State) :
    ∃ slots offers tx, withdrawFrame sl s = { s with slots := slots, offers := offers, tx := tx } := by
  unfold withdrawFrame
  split <;> exact ⟨_, _, _, rfl⟩

/-- A head's leaving its queue acts on those fields and the grant table only. -/
theorem leaveQueue_only (sl : SlotNum) (outcome : Notice) (s : State) :
    ∃ grants slots offers tx,
      leaveQueue sl outcome s = { s with grants := grants, slots := slots, offers := offers, tx := tx } := by
  unfold leaveQueue
  split
  · exact ⟨_, _, _, _, rfl⟩
  · rename_i g rest _
    obtain ⟨a, h⟩ := setNotice_only g outcome s
    obtain ⟨b, c, d, h'⟩ := withdrawFrame_only sl (setNotice g outcome s)
    rw [h] at h'
    simp only [h, h']
    exact ⟨_, _, _, _, rfl⟩

/-- Emptying a queue acts on the station slots, the offer list and the transmitter only. -/
theorem abandonQueue_only (sl : SlotNum) (s : State) :
    ∃ slots offers tx, abandonQueue sl s = { s with slots := slots, offers := offers, tx := tx } := by
  unfold abandonQueue
  obtain ⟨b, c, d, h'⟩ := withdrawFrame_only sl s
  simp only [h']
  exact ⟨_, _, _, rfl⟩

/-- What an operation on every slot keeps, its single act keeps (an induction over the slots). -/
theorem forSlots_induction {f : SlotNum → State → State} {P : State → Prop} (step : ∀ sl s, P s → P (f sl s))
    {s : State} (h : P s) : P (forSlots f s) := by
  unfold forSlots
  generalize List.finRange 16 = l
  induction l generalizing s with
  | nil => exact h
  | cons sl l ih => exact ih (step sl s h)

end Sys2Proof.Machine
end

