-- ==== Sys2Proof/Laws/Contexts.lean ====
section
/-! SUPPORT. Node memory's canonical form, and for each shared operation of Machine/Contexts.lean what it answers in each
case and the fields it may change. -/

namespace Sys2Proof.Machine

/-! ### Node memory (log 12) -/

/-- The first address of a list of lines, where there is one, is above `a`. -/
def headAbove (a : Nat) : List (Nat × Line) → Bool
  | [] => true
  | (b, _) :: _ => decide (a < b)

theorem nodeMemWf_cons (a : Nat) (l : Line) (m : List (Nat × Line)) :
    nodeMemWf ((a, l) :: m) = (headAbove a m && nodeMemWf m) := by
  cases m with
  | nil => rfl
  | cons p rest => cases p; rfl

theorem headAbove_nodeWrite {a b : Nat} (l : Line) (m : List (Nat × Line)) (hb : b < a) (h : headAbove b m = true) :
    headAbove b (nodeWrite a l m) = true := by
  cases m with
  | nil => simp [nodeWrite, headAbove, hb]
  | cons p rest =>
    obtain ⟨c, k⟩ := p
    simp only [nodeWrite]
    split
    · simp [headAbove, hb]
    · split
      · simp [headAbove, hb]
      · simpa [headAbove] using h

/-- A line write keeps the canonical form. -/
theorem nodeMemWf_nodeWrite (a : Nat) (l : Line) (m : List (Nat × Line)) (h : nodeMemWf m = true) :
    nodeMemWf (nodeWrite a l m) = true := by
  induction m with
  | nil => rfl
  | cons p rest ih =>
    obtain ⟨b, k⟩ := p
    rw [nodeMemWf_cons, Bool.and_eq_true] at h
    simp only [nodeWrite]
    split
    · rename_i hab
      rw [nodeMemWf_cons, nodeMemWf_cons, h.1, h.2]
      simp [headAbove, hab]
    · split
      · rename_i hab
        subst hab
        rw [nodeMemWf_cons, h.1, h.2]; rfl
      · rename_i h1 h2
        rw [nodeMemWf_cons, headAbove_nodeWrite l rest (by omega) h.1, ih h.2]; rfl

/-- A line reads as it was last written. -/
theorem nodeRead_nodeWrite_self (a : Nat) (l : Line) (m : List (Nat × Line)) : nodeRead a (nodeWrite a l m) = some l := by
  induction m with
  | nil => simp [nodeWrite, nodeRead]
  | cons p rest ih =>
    obtain ⟨b, k⟩ := p
    simp only [nodeWrite]
    split
    · simp [nodeRead]
    · split
      · simp [nodeRead]
      · rename_i h1 h2
        simp [nodeRead, h2, ih]

/-- A line write changes no other line. -/
theorem nodeRead_nodeWrite_ne {a b : Nat} (l : Line) (m : List (Nat × Line)) (h : b ≠ a) :
    nodeRead b (nodeWrite a l m) = nodeRead b m := by
  induction m with
  | nil => simp [nodeWrite, nodeRead, h]
  | cons p rest ih =>
    obtain ⟨c, k⟩ := p
    simp only [nodeWrite]
    split
    · simp [nodeRead, h]
    · split
      · rename_i h1 h2
        subst h2
        simp [nodeRead, h]
      · simp only [nodeRead, ih]

/-! ### The port and its arbiter -/

/-- A busy port is not given. -/
theorem givePort_busy {s : State} {o : Option CtxNum} {op : LineOp} (h : s.port = .busy o op) : givePort s = s := by
  simp [givePort, h]

/-- With no line left the port stays free. -/
theorem givePort_none {s : State} (h : s.nextContext = none) : givePort s = s := by
  unfold givePort
  split
  · rename_i hc; simp [h] at hc
  · rfl

/-- A free port is given to the next context with a line left (R95). -/
theorem givePort_starts {s : State} {c : CtxNum} (hp : s.port = .free) (h : s.nextContext = some c) :
    givePort s = startLine c s := by
  simp [givePort, hp, h]

/-- Giving the port acts on the contexts, the port and the arbiter only. -/
theorem givePort_only (s : State) :
    ∃ ctxs port last, givePort s = { s with ctxs := ctxs, port := port, lastServed := last } := by
  unfold givePort
  split <;> exact ⟨_, _, _, rfl⟩

/-! ### The end of a memory phase -/

/-- Clearing a pending mark acts on the station table only. -/
theorem clearPending_only (c : CtxNum) (sl : SlotNum) (s : State) : ∃ slots, clearPending c sl s = { s with slots := slots } :=
  ⟨_, rfl⟩

/-- The fall of an in-flight count acts on the fields that a test for readiness may change. -/
theorem lowerInFlight_only (g : GrantNum) (s : State) :
    ∃ grants index freeList slots cq backlog alerts,
      lowerInFlight g s = { s with
        grants := grants, index := index, freeList := freeList, slots := slots, cq := cq, backlog := backlog,
        alerts := alerts } := by
  unfold lowerInFlight
  obtain ⟨a, b, c, d, e, f, i, h⟩ := testReady_only g (s.setGrant g { s.grant g with inFlight := (s.grant g).inFlight - 1 })
  rw [h]
  exact ⟨_, _, _, _, _, _, _, rfl⟩

/-- The end of a memory phase acts on those fields, the contexts, the reply queue and the hold state only. -/
theorem endPhase_only (c : CtxNum) (s : State) :
    ∃ grants index freeList slots cq backlog alerts ctxs replyQ hold,
      endPhase c s = { s with
        grants := grants, index := index, freeList := freeList, slots := slots, cq := cq, backlog := backlog,
        alerts := alerts, ctxs := ctxs, replyQ := replyQ, hold := hold } := by
  unfold endPhase
  obtain ⟨a1, a2, a3, a4, a5, a6, a7, h1⟩ := lowerInFlight_only (s.ctx c).grant s
  simp only []
  split
  · obtain ⟨b1, b2, b3, b4, h2⟩ := drainTest_only ((lowerInFlight (s.ctx c).grant s).enter c .idle)
    rw [h2, h1]
    exact ⟨_, _, _, _, _, _, _, _, _, _, rfl⟩
  · split
    · obtain ⟨b1, b2, b3, b4, h2⟩ := drainTest_only ((setCache (s.ctx c) (lowerInFlight (s.ctx c).grant s)).enter c .idle)
      rw [h2, h1]
      exact ⟨_, _, _, _, _, _, _, _, _, _, rfl⟩
    · split
      · rw [h1]
        exact ⟨_, _, _, _, _, _, _, _, _, _, rfl⟩
      · obtain ⟨b1, b2, b3, b4, h2⟩ := drainTest_only (clearPending c (s.ctx c).slot
          ((setCache (s.ctx c) (lowerInFlight (s.ctx c).grant s)).enter c .idle))
        rw [h2, h1]
        exact ⟨_, _, _, _, _, _, _, _, _, _, rfl⟩

/-- Taking a line operation's result acts on the same fields only. -/
theorem takeResult_only (c : CtxNum) (res : LineResult) (s : State) :
    ∃ grants index freeList slots cq backlog alerts ctxs replyQ hold,
      takeResult c res s = { s with
        grants := grants, index := index, freeList := freeList, slots := slots, cq := cq, backlog := backlog,
        alerts := alerts, ctxs := ctxs, replyQ := replyQ, hold := hold } := by
  unfold takeResult
  simp only []
  split
  · split
    · rename_i data
      split
      · obtain ⟨a1, a2, a3, a4, a5, a6, a7, a8, a9, a10, h1⟩ := endPhase_only c (s.setCtx c ((s.ctx c).recordLine data))
        rw [h1]
        exact ⟨_, _, _, _, _, _, _, _, _, _, rfl⟩
      · exact ⟨_, _, _, _, _, _, _, _, _, _, rfl⟩
    · obtain ⟨a1, a2, a3, a4, a5, a6, a7, a8, a9, a10, h1⟩ := endPhase_only c
        { s.setCtx c { s.ctx c with fault := true } with alerts := { s.alerts with busFault := true } }
      rw [h1]
      exact ⟨_, _, _, _, _, _, _, _, _, _, rfl⟩
  · exact ⟨_, _, _, _, _, _, _, _, _, _, rfl⟩

/-- A line operation's write in node memory acts on node memory only. -/
theorem acceptWrite_only (op : LineOp) (res : LineResult) (s : State) :
    ∃ m, acceptWrite op res s = { s with nodeMem := m } := by
  unfold acceptWrite
  split <;> exact ⟨_, rfl⟩

/-- A line operation's end keeps node memory's canonical form. -/
theorem acceptWrite_wf (op : LineOp) (res : LineResult) (s : State) (h : nodeMemWf s.nodeMem = true) :
    nodeMemWf (acceptWrite op res s).nodeMem = true := by
  unfold acceptWrite
  split
  · exact nodeMemWf_nodeWrite _ _ _ h
  · exact h
  · exact h

/-! ### The link -/

/-- Dropping a reply acts on the contexts and the station table only (R104). -/
theorem dropReply_only (c : CtxNum) (s : State) : ∃ ctxs slots, dropReply c s = { s with ctxs := ctxs, slots := slots } := by
  unfold dropReply
  split <;> exact ⟨_, _, rfl⟩

/-- Dropping the replies acts on the same fields only. -/
theorem dropReplies_only (s : State) : ∃ ctxs slots, dropReplies s = { s with ctxs := ctxs, slots := slots } := by
  unfold dropReplies
  generalize List.finRange 8 = l
  induction l generalizing s with
  | nil => exact ⟨_, _, rfl⟩
  | cons c l ih =>
    obtain ⟨a, b, h⟩ := dropReply_only c s
    obtain ⟨a', b', h'⟩ := ih (dropReply c s)
    refine ⟨a', b', ?_⟩
    rw [List.foldl_cons, h', h]

/-- The link's leaving UP (R127): what it sets, and the fields it may change beside. -/
theorem linkLeavesUp_only (next : LinkState) (s : State) :
    ∃ ctxs slots hold cq backlog alerts,
      linkLeavesUp next s = { s with
        ctxs := ctxs, slots := slots, hold := hold, cq := cq, backlog := backlog, alerts := alerts,
        link := next, receiving := false, tx := .free, replyQ := [], immCount := 0, offers := [] } := by
  unfold linkLeavesUp clearFrames
  obtain ⟨a, b, h⟩ := dropReplies_only s
  rw [h]
  simp only []
  split
  · obtain ⟨c1, c2, c3, c4, h2⟩ := drainTest_only
      { s with
        ctxs := a, slots := b.map (fun x => { x with frame := .none }), link := next, receiving := false, tx := .free,
        replyQ := [], immCount := 0, offers := [], alerts := { s.alerts with linkChange := true } }
    rw [h2]
    exact ⟨_, _, _, _, _, _, rfl⟩
  · exact ⟨_, _, _, _, _, _, rfl⟩

/-- Offering a head again acts on the station slots and the offer list only. -/
theorem reofferHead_only (sl : SlotNum) (s : State) :
    ∃ slots offers, reofferHead sl s = { s with slots := slots, offers := offers } := by
  unfold reofferHead
  split
  · split
    · exact offerFrame_only sl s
    · exact ⟨_, _, rfl⟩
  · split
    · exact offerFrame_only sl s
    · exact ⟨_, _, rfl⟩
  · exact ⟨_, _, rfl⟩

end Sys2Proof.Machine
end

