-- ==== Sys2Proof/Laws/Requests.lean ====
section
/-! SUPPORT. Events, immediate replies and arrivals: what the shared operations of Machine/Requests.lean answer in each
case. -/

namespace Sys2Proof.Machine

/-! ### Events -/

/-- Outside reset an event has its effect. -/
theorem event_running {f : State → State} {s : State} (h : s.inReset = false) : event f s = .next (f s) := by
  simp [event, h]

/-- While the part is held in reset an event changes nothing (R185). -/
theorem event_held {f : State → State} {s : State} (h : s.inReset = true) : event f s = .next s := by
  simp [event, h]

/-- An event answers a next state, always. -/
theorem event_next (f : State → State) (s : State) : ∃ t, event f s = .next t := by
  unfold event
  split <;> exact ⟨_, rfl⟩

/-- What an event keeps: anything that its effect keeps. -/
theorem event_keeps {f : State → State} {P : State → Prop} {s t : State} (hf : ∀ x, P x → P (f x)) (h : event f s = .next t)
    (hs : P s) : P t := by
  unfold event at h
  split at h
  · cases h; exact hs
  · cases h; exact hf s hs

/-! ### Immediate replies -/

/-- Below the limit an immediate reply joins the reply queue (R84). -/
theorem immediate_queued {r : Reply} {s : State} (h : s.immCount < 4) :
    immediate r s =
      txTake { s with replyQ := s.replyQ ++ [{ origin := .immediate, frame := r }], immCount := s.immCount + 1 } := by
  simp [immediate, Config.immediateLimit, h]

/-- At the limit an immediate reply is lost (R85). -/
theorem immediate_lost {r : Reply} {s : State} (h : 4 ≤ s.immCount) : immediate r s = s := by
  simp [immediate, Config.immediateLimit, Nat.not_lt.mpr h]

/-- With a reply queued, the transmitter, if free and the link UP, is sending a reply. -/
theorem txTake_of_replyQ {s : State} (hl : s.link = .up) (hq : s.replyQ ≠ []) :
    txTake s = { s with tx := if s.tx = .free then .reply else s.tx } := by
  by_cases ht : s.tx = .free
  · cases hq' : s.replyQ with
    | nil => exact absurd hq' hq
    | cons q rest => rw [txTake_reply hl ht hq', if_pos ht, ← hq']
  · rw [txTake_busy ht, if_neg ht]

/-- An immediate reply queued on an UP link, written out (R84, R134). -/
theorem immediate_up {r : Reply} {s : State} (h : s.immCount < 4) (hl : s.link = .up) :
    immediate r s =
      { s with
        replyQ := s.replyQ ++ [{ origin := .immediate, frame := r }]
        immCount := s.immCount + 1
        tx := if s.tx = .free then .reply else s.tx } := by
  rw [immediate_queued h, txTake_of_replyQ]
  · exact hl
  · simp

/-- An immediate reply acts on the reply queue, its count, the transmitter, the station slots and the offer list only. -/
theorem immediate_only (r : Reply) (s : State) :
    ∃ replyQ immCount tx slots offers,
      immediate r s = { s with replyQ := replyQ, immCount := immCount, tx := tx, slots := slots, offers := offers } := by
  unfold immediate
  split
  · obtain ⟨a, b, c, h⟩ := txTake_only
      { s with replyQ := s.replyQ ++ [{ origin := .immediate, frame := r }], immCount := s.immCount + 1 }
    rw [h]
    exact ⟨_, _, _, _, _, rfl⟩
  · exact ⟨_, _, _, _, _, rfl⟩

/-- A definitive outcome acts on the same fields only. -/
theorem definitive_only (sl : SlotNum) (r : Request) (status : ReplyStatus) (value : Word) (replayed : Bool) (s : State) :
    ∃ replyQ immCount tx slots offers,
      definitive sl r status value replayed s =
        { s with replyQ := replyQ, immCount := immCount, tx := tx, slots := slots, offers := offers } := by
  unfold definitive answer recordOutcome
  obtain ⟨a, b, c, d, e, h⟩ := immediate_only
    (plainReply (s.modifyRecord sl (fun x =>
      { x with
        session := x.session.map (fun e => { e with last := r.seq })
        cache := some { kind := r.kind, seq := r.seq, status := status, value := value } }))
      r.src r.kind.code r.seq r.grant r.gen status value replayed)
    (s.modifyRecord sl (fun x =>
      { x with
        session := x.session.map (fun e => { e with last := r.seq })
        cache := some { kind := r.kind, seq := r.seq, status := status, value := value } }))
  rw [h]
  exact ⟨_, _, _, _, _, rfl⟩

/-! ### Arrivals -/

/-- A frame that can arrive is taken, with the receiver idle again (R131). -/
theorem arrive_received {a : Arrival} {s : State} (h : s.CanReceive a.src) :
    event (arrive a) s = .next (takeArrival a { s with receiving := false }) := by
  obtain ⟨h1, h2, h3⟩ := h
  rw [event_running h1]
  simp [arrive, h2, h3]

/-- While the link is not UP no frame is received (R131). -/
theorem arrive_link_not_up {a : Arrival} {s : State} (h : s.link ≠ .up) : arrive a s = s := by
  simp [arrive, h]

/-- A request from an ADMITTED, synced station in RUNNING reaches the sequence rule (R71, R72). -/
theorem takeRequest_sequence {r : Request} {s : State} {sl : SlotNum} {x : Station} {e : Session}
    (hs : s.findSlot r.src = some sl) (hr : (s.slot sl).record = some x) (hb : x.barred = false)
    (hh : s.hold = .running) (he : x.session = some e) : takeRequest r s = sequenceRequest sl x e.last r s := by
  simp [takeRequest, hs, hr, hb, hh, he]

/-- A request with the next sequence number from a station with no pending request goes on to step 9 (R56). -/
theorem sequenceRequest_new {sl : SlotNum} {x : Station} {last : Byte} {r : Request} {s : State}
    (hq : r.seq = last + 1) (hp : x.pending = none) :
    sequenceRequest sl x last r s = resolveRequest sl r false s := by
  simp [sequenceRequest, sequenceRule, hq, hp]

end Sys2Proof.Machine
end

