-- ==== Sys2Proof/Laws/Commands.lean ====
section
/-! SUPPORT. The Command Unit: when a submitted record is dropped, waits, or is taken at once, and what its being taken
does. -/

namespace Sys2Proof.Machine

/-- Without a slot to give, no command is taken (R141). -/
theorem takeCommand_blocked {s : State} (h : s.slotFree = false) : takeCommand s = s := by
  unfold takeCommand
  split
  · rfl
  · simp [h]

/-- Without a slot to give, no command is taken, however often the unit looks. -/
theorem takeCommands_blocked {s : State} (n : Nat) (h : s.slotFree = false) : takeCommands n s = s := by
  induction n with
  | zero => rfl
  | succ n ih => rw [takeCommands, takeCommand_blocked h, ih]

/-- With the FIFO empty, no command is taken. -/
theorem takeCommand_empty {s : State} (h : s.fifo = []) : takeCommand s = s := by
  simp [takeCommand, h]

/-- The head of the FIFO is taken when a slot is free (R141). -/
theorem takeCommand_taken {s : State} {r : Record} {rest : List Record} (h : s.fifo = r :: rest) (hf : s.slotFree = true) :
    takeCommand s = runRecord r { s with fifo := rest } := by
  simp [takeCommand, h, hf]

/-- A record submitted to a full FIFO is dropped (R139). -/
theorem submitRecord_dropped {r : Record} {s : State} (h : 16 ≤ s.fifo.length) :
    submitRecord r s = { s with alerts := { s.alerts with cmdOverrun := true } } := by
  simp [submitRecord, Config.fifoCapacity, Nat.not_lt.mpr h]

/-- A record submitted while no slot can be given waits at the tail of the FIFO (R139, R141). -/
theorem submitRecord_waits {r : Record} {s : State} (h : s.fifo.length < 16) (hf : s.slotFree = false) :
    submitRecord r s = { s with fifo := s.fifo ++ [r] } := by
  simp only [submitRecord, Config.fifoCapacity, h, if_true]
  exact takeCommands_blocked _ hf

/-- When the Command Unit can take a command, a slot is free. -/
theorem State.CanTake.slotFree {s : State} (h : s.CanTake) : s.slotFree = true := by
  obtain ⟨_, _, hb, hc⟩ := h
  simp [State.slotFree, hb, hc]

/-- A record submitted when the Command Unit can take it is executed at once (R139, R141, R142). -/
theorem submitRecord_taken {r : Record} {s : State} (h : s.CanTake) : submitRecord r s = runRecord r s := by
  have hf : s.fifo = [] := h.2.1
  have h1 : submitRecord r s = takeCommands 1 { s with fifo := [r] } := by
    simp [submitRecord, Config.fifoCapacity, hf]
  have h2 : ({ s with fifo := [r] } : State).slotFree = true := h.slotFree
  rw [h1, takeCommands, takeCommands, takeCommand_taken rfl h2]
  have h3 : ({ s with fifo := [] } : State) = s := by rw [← hf]
  exact congrArg (runRecord r) h3

/-- What a taken record does: its command is executed, its CMD_DONE record placed, and the grants its execution readied
are handed over (R142, R143). -/
theorem runRecord_encode {tag : BitVec 16} {c : Command} {s : State} (hc : ProperCommand c) :
    runRecord (encodeCommand tag c) s =
      testReadyAll (execute c s).ready
        (placeRecord
          (.cmdDone (commandCode c) tag (execute c s).status (execute c s).w1 (execute c s).w2 (execute c s).w3)
          (execute c s).state) := by
  simp only [runRecord, decodeCommand_encodeCommand tag c hc, code_encodeCommand, tag_encodeCommand]

/-- A host command submitted when it can be taken (R139 to R143). -/
theorem command_taken {tag : BitVec 16} {c : Command} {s : State} (h : s.CanTake) (hc : ProperCommand c) :
    command tag c s = .next
      (testReadyAll (execute c s).ready
        (placeRecord
          (.cmdDone (commandCode c) tag (execute c s).status (execute c s).w1 (execute c s).w2 (execute c s).w3)
          (execute c s).state)) := by
  rw [command, event_running h.1, submitRecord_taken h, runRecord_encode hc]

/-- A command that hands nothing over: its effect, and its CMD_DONE record behind the others. -/
theorem command_taken_quiet {tag : BitVec 16} {c : Command} {s : State} (h : s.CanTake) (hc : ProperCommand c)
    (hr : (execute c s).ready = []) :
    command tag c s = .next
      (placeRecord
        (.cmdDone (commandCode c) tag (execute c s).status (execute c s).w1 (execute c s).w2 (execute c s).w3)
        (execute c s).state) := by
  rw [command_taken h hc, hr, testReadyAll_nil]

/-- A host command submitted while no slot can be given waits in the FIFO. -/
theorem command_waits {tag : BitVec 16} {c : Command} {s : State} (hi : s.inReset = false) (h : s.fifo.length < 16)
    (hf : s.slotFree = false) : command tag c s = .next { s with fifo := s.fifo ++ [encodeCommand tag c] } := by
  rw [command, event_running hi, submitRecord_waits h hf]

/-- A host command submitted to a full FIFO is dropped. -/
theorem command_dropped {tag : BitVec 16} {c : Command} {s : State} (hi : s.inReset = false) (h : 16 ≤ s.fifo.length) :
    command tag c s = .next { s with alerts := { s.alerts with cmdOverrun := true } } := by
  rw [command, event_running hi, submitRecord_dropped h]

end Sys2Proof.Machine
end

