-- ==== Sys2Proof/Laws/Window.lean ====
section
/-! SUPPORT. The register window as it is read, bit by bit, and the tick period. -/

namespace Sys2Proof.Machine

/-- The mask of some byte lanes has exactly the bits of those bytes. -/
theorem getLsbD_laneMask (lanes : BitVec 4) (i : Nat) :
    (laneMask lanes).getLsbD i = (decide (i < 32) && lanes.getLsbD (i / 8)) := by
  by_cases h : i < 32
  · have all : ∀ (l : BitVec 4) (k : Fin 32), (laneMask l).getLsbD k.val = l.getLsbD (k.val / 8) := by decide +kernel
    simp only [h, decide_true, Bool.true_and]
    exact all lanes ⟨i, h⟩
  · rw [BitVec.getLsbD_of_ge _ _ (Nat.le_of_not_lt h)]
    simp [h]

/-- The word in which a byte offset falls starts at the multiple of four below it. -/
theorem wordOffset_eq (offset : BitVec 8) : wordOffset offset = BitVec.ofNat 8 (offset.toNat / 4 * 4) := by
  revert offset
  decide +kernel

/-- Each bit of a read is that of the word if its byte is addressed, and 0 otherwise and in reset. -/
theorem getLsbD_readWindow (s : State) (offset : BitVec 8) (lanes : BitVec 4) (i : Nat) :
    (readWindow s offset lanes).getLsbD i =
      (!s.inReset && ((windowWord s (wordOffset offset)).getLsbD i && lanes.getLsbD (i / 8))) := by
  unfold readWindow State.inReset
  by_cases h : i < 32
  · have lane := getLsbD_laneMask lanes i
    simp only [h, decide_true, Bool.true_and] at lane
    cases s.resetnLow || s.supplyOut
    · simp only [Bool.false_eq_true, if_false, BitVec.getLsbD_and, lane, Bool.not_false, Bool.true_and]
    · simp
  · rw [BitVec.getLsbD_of_ge _ _ (Nat.le_of_not_lt h), BitVec.getLsbD_of_ge (windowWord s _) _ (Nat.le_of_not_lt h)]
    simp

/-- Outside reset a full-width read at a word's offset is the word. -/
theorem readWindow_full (s : State) (k : Fin 64) (h : s.inReset = false) :
    readWindow s (BitVec.ofNat 8 (4 * k.val)) 15 = windowWord s (BitVec.ofNat 8 (4 * k.val)) := by
  have aligned : ∀ k : Fin 64, wordOffset (BitVec.ofNat 8 (4 * k.val)) = BitVec.ofNat 8 (4 * k.val) := by decide +kernel
  have lane : ∀ i : Fin 32, (15#4).getLsbD (i.val / 8) = true := by decide
  apply BitVec.eq_of_getLsbD_eq
  intro i hi
  rw [getLsbD_readWindow, h, aligned]
  simp [lane ⟨i, hi⟩]

/-- No tick period is 0. -/
theorem TickPeriod.micros_pos (p : TickPeriod) : 0 < p.micros := by cases p <;> decide

end Sys2Proof.Machine
end

