-- ==== Sys2Proof/Tests/Slice0.lean ====
section
/-! SUPPORT. The package's own tests: ill-formed terms that WellFormed refuses, layouts written out from the spec's tables,
single steps on small states, and for each statement a state and operands that meet its hypotheses. -/

namespace Sys2Proof.Tests

open Sys2Proof Sys2Proof.Machine

set_option maxRecDepth 4000
set_option Elab.async false

/-! ### WellFormed refuses -/

theorem test_wf_controlRows :
    WellFormed (.engineReset 1) = false ∧ WellFormed (.linkEnable 2) = false ∧ WellFormed (.linkDisable 1) = false ∧
      WellFormed (.interruptEnableWrite 2) = false := by decide

theorem test_wf_ignoredWrite :
    WellFormed (.ignoredWrite 0x04 15 0) = false ∧ WellFormed (.ignoredWrite 0x40 15 0) = false ∧
      WellFormed (.ignoredWrite 0x04 7 0) = true ∧ WellFormed (.ignoredWrite 0x08 15 0) = true := by decide

theorem test_wf_badCommand :
    WellFormed (.badCommand 0 1) = false ∧ WellFormed (.badCommand 0 14) = false ∧
      WellFormed (.badCommand 0 15) = true ∧ WellFormed (.badCommand 0 0) = true := by decide

theorem test_wf_unknownKind :
    WellFormed (.unknownKindFrame 3 0 1) = false ∧ WellFormed (.unknownKindFrame 3 0 7) = false ∧
      WellFormed (.unknownKindFrame 0 0 8) = false ∧ WellFormed (.unknownKindFrame 3 0 8) = true := by decide

theorem test_wf_sources :
    WellFormed (.hello 0 0 0 0) = false ∧ WellFormed (.read 63 0 0 0 0 0) = false ∧
      WellFormed (.write 0 0 0 0 0 0 []) = false ∧ WellFormed (.renew 63 0 0 0) = false ∧
      WellFormed (.returnGrant 0 0 0 0) = false ∧ WellFormed (.probe 63 0 0 0) = false ∧
      WellFormed (.noticeAck 0 0 0 0) = false := by decide

theorem test_wf_payload :
    WellFormed (.write 3 0 0 0 0 0 (List.replicate 17 0)) = false ∧
      WellFormed (.write 3 0 0 0 0 0 (List.replicate 16 0)) = true := by decide

/-! ### Layouts, written out from the spec's tables -/

/-- No row of the table gives bits, so no word spells a command. -/
theorem test_noTableWord : decodeTableWord 32 1 = none := rfl

/-- The check value that pins the bit order of the CRC (log 6). -/
theorem test_crc32 : crc32 [0x31, 0x32, 0x33, 0x34, 0x35, 0x36, 0x37, 0x38, 0x39] = 0xCBF43926#32 := by decide +kernel

/-- An ISSUE record by Table 11-8: code 1, station 12, READ and WRITE, NOTIFY, a lifetime of 500, length 65,536, base 8,
credits 2, cookie 1234H, renew amount 100, tag 7. -/
theorem test_issueRecord :
    decodeCommand #v[0x0007F8C1#32, 0x20000008#32, 0x12340000#32, 0x006401F4#32] =
      .issue { station := 12, shared := false, read := true, write := true, notify := true, lifetimePresent := true,
               length := 65536, base := 8, credits := 2, cookie := 0x1234, lifetime := 500, renewAmount := 100 } := by
  decide

/-- An AMEND record: reference 17/3, a lifetime of 9 set, notify set no, rights READ set, 5 credits added. -/
theorem test_amendRecord :
    decodeCommand #v[0x00000692#32, 0x05030011#32, 0x00000009#32, 0#32] =
      .amend { grant := 17, gen := 3, lifetimeAction := 1, notifyAction := 2, renewSet := false, rightsSet := true,
               read := true, write := false, lengthSet := false, length := 0, credits := 5, lifetime := 9,
               renewAmount := 0 } := by
  decide

/-- The other records, one of each shape. -/
theorem test_otherRecords :
    decodeCommand #v[0x3#32, 0x00030011#32, 0, 0] = .revoke 17 3 ∧
      decodeCommand #v[0x404#32, 0, 0, 0] = .sweep 0 true ∧
      decodeCommand #v[0x5#32, 0x200#32, 1, 0] = .queryGrant 512 1 ∧
      decodeCommand #v[0x6#32, 0x0FFFFFFF#32, 2, 0] = .queryLine 0x0FFFFFFF 2 ∧
      decodeCommand #v[0xC7#32, 40, 0, 0] = .admitStation 12 40 ∧
      decodeCommand #v[0xC8#32, 0, 0, 0] = .bar 12 ∧ decodeCommand #v[0xC9#32, 0, 0, 0] = .forget 12 ∧
      decodeCommand #v[0xCA#32, 0, 1, 0] = .queryStation 12 1 ∧
      decodeCommand #v[0x6B#32, 0x10000000#32, 1, 5] =
        .setLimits { keepMemTop := false, keepPolicy := true, keepQuota := true, memTop := 0x10000000, policy := 1,
                     quota := 5 } ∧
      decodeCommand #v[0x1C#32, 3, 15, 7] =
        .setTiming { keepPeriod := true, keepInterval := false, keepTries := false, period := 3, interval := 15,
                     tries := 7 } ∧
      decodeCommand #v[0x1D#32, 0, 0, 0] = .hold true ∧ decodeCommand #v[0xE#32, 0, 0, 0] = .resume ∧
      decodeCommand #v[0xF#32, 0, 0, 0] = .bad 15 := by
  decide

/-- Completion records by R189. -/
theorem test_completionWords :
    Completion.words (.cmdDone 3 0x1234 .stale 0x302 0 0) = #v[0x12340931#32, 0x302, 0, 0] ∧
      Completion.words (.retired 17 3 (.station 12) .revoked .acked 0xBEEF) =
        #v[2#32, 0x0C030011#32, 0xBEEF0042#32, 0] ∧
      Completion.words (.retired 17 3 .shared .swept .notDue 0) = #v[2#32, 0x40030011#32, 0x14#32, 0] ∧
      Completion.words (.admitted 12 5) = #v[3#32, 0x50C#32, 0, 0] ∧
      Completion.words (.restarted 12 700 3 2) = #v[4#32, 0x20C#32, 700, 3] ∧
      Completion.words .holdReached = #v[5#32, 0, 0, 0] := by
  decide

/-- A READ frame's header bytes by Table 11-6. -/
theorem test_readFrameBytes :
    (Arrival.bytes 50 (.request
      { kind := .read, src := 12, seq := 9, grant := 0x111, gen := 3, offset := 0x20, count := 2, payload := [] })).take 16 =
      [2, 50, 12, 9, 0, 0, 0x11, 0x01, 3, 0, 0, 2, 0x20, 0, 0, 0] := by
  decide +kernel

/-- A WRITE frame of one line passes the filter and decodes to itself. -/
theorem test_writeFrameReceived :
    receive 50 (Arrival.bytes 50 (.request
      { kind := .write, src := 12, seq := 1, grant := 3, gen := 4, offset := 5, count := 1, payload := [7] })) =
      some (.request
        { kind := .write, src := 12, seq := 1, grant := 3, gen := 4, offset := 5, count := 1, payload := [7] }) := by
  decide +kernel

/-! ### Small states -/

/-- Station 12, ADMITTED and synced at epoch 5, last accepted 0. -/
def station12 : Station :=
  { barred := false, number := 12, quota := 40, held := 1, session := some { epoch := 5, last := 0 }, pending := none,
    cache := none, admittedWaiting := false, restartWaiting := none }

/-- A READ+WRITE grant of station 12 on lines 8 to 11. -/
def terms : Terms :=
  { holder := .station 12, base := 8, length := 4, rights := .readWrite, remaining := some 9, credits := 1,
    renewAmount := some 2, notify := true, cookie := 7 }

/-- The part with SELF 50, the link UP, MEM_TOP 1000 and policy OPEN. -/
def up : State := { State.reset with self := 50, link := .up, linkEnable := true, memTop := 1000, policy := .opened }

/-- `s` with a record in slot 0. -/
def withStation (x : Station) (s : State) : State := s.setSlot 0 { s.slot 0 with record := some x }

/-- `s` with grant 0 in use, its in-flight count and body given. -/
def withGrant0 (n : Nat) (b : Body) (s : State) : State :=
  { s.setGrant 0 { gen := 0, inFlight := n, body := b } with freeList := (List.finRange 512).drop 1, index := [0] }

/-- Station 12 with one LIVE grant, reference 0/0. -/
def live : State := withGrant0 0 (.live terms) (withStation station12 up)

/-- Grant 0 CLOSING with a notice in the given state, at the head of slot 0's queue. -/
def notified (n : Notice) : State :=
  let s := withGrant0 0 (.closing terms { cause := .revoked, notice := n, retireWait := false }) (withStation station12 up)
  s.setSlot 0 { s.slot 0 with queue := [0] }

/-- The frame of that grant's first try. -/
def frame0 : NoticeFrame := { dest := 12, src := 50, grant := 0, gen := 0, cause := .revoked, tryNo := 1 }

/-- Context 0 of station 12's READ of two lines, in a given state with `done` lines done, and the port on its next line. -/
def reading (st : CtxState) (done : Nat) : State :=
  { (withGrant0 1 (.live terms) (withStation { station12 with pending := some 0 } up)).setCtx 0
      { Ctx.initial with state := st, seq := 1, first := 8, count := 2, issued := done + 1, done := done } with
    port := .busy (some 0) (.read (8 + done)) }

/-- What holds after a command, as a test. -/
def after (c : Instr) (s : State) (p : State → Bool) : Bool :=
  match exec c s with
  | .next t => p t
  | _ => false

/-! ### One step each -/

/-- A narrow read at 05H returns byte 1 of CONTROL, LINK_CHANGE's enable among it, and a full-width write there is ignored. -/
theorem test_narrowAccess :
    readWindow { up with enables := { up.enables with linkChange := true } } 0x05 2 = 0x100#32 ∧
      readWindow up 0x07 8 = 0 ∧ readWindow up 0x03 8 = 0x22000000#32 ∧ windowWrite 0x05 15 0 up = up :=
  ⟨by decide +kernel, by decide +kernel, by decide +kernel, rfl⟩

theorem test_powerOnReset : after (.powerOnReset false false 33) live (fun t => t.self == 33 && t.memTop == 0) = true := by
  decide +kernel

theorem test_engineReset :
    after (.engineReset 0x13) live (fun t => (t.grant 0).gen == 1 && t.linkEnable && t.enables.cq && t.memTop == 1000) =
      true := by
  decide +kernel

theorem test_linkEnable :
    after (.linkEnable 1) { State.reset with self := 5 } (fun t => t.link == .training && t.linkEnable) = true := by
  decide +kernel

theorem test_linkDisable :
    after (.linkDisable 0) (reading .readMem 0) (fun t => t.link == .down && t.alerts.linkChange && !t.linkEnable) =
      true := by
  decide +kernel

theorem test_alertsClear :
    after (.alertsClear 2) { up with alerts := { Alerts.clear with linkChange := true, cmdOverrun := true } }
      (fun t => t.alerts.linkChange && !t.alerts.cmdOverrun) = true := by
  decide +kernel

theorem test_submit :
    after (.submit 0) { up with stage := #v[0x0009000E#32, 0, 0, 0] }
      (fun t => t.cq == [.cmdDone 14 9 .notHeld 0 0 0] && t.fifo.isEmpty) = true := by
  decide +kernel

theorem test_cqAck : after (.cqAck 0) { up with cq := [.holdReached, .admitted 3 1] } (fun t => t.cq == [.admitted 3 1]) =
    true := by
  decide +kernel

theorem test_issue :
    after
      (.issue 9
        { station := 12, shared := false, read := true, write := false, notify := true, lifetimePresent := true,
          length := 5, base := 40, credits := 2, cookie := 3, lifetime := 5, renewAmount := 3 }) live
      (fun t => t.cq == [.cmdDone 1 9 .ok 1 510 0] && t.index == [0, 1]) = true := by
  decide +kernel

theorem test_issueConflict :
    after
      (.issue 9
        { station := 0, shared := true, read := true, write := false, notify := false, lifetimePresent := false,
          length := 1, base := 11, credits := 0, cookie := 0, lifetime := 0, renewAmount := 0 }) live
      (fun t => t.cq == [.cmdDone 1 9 .conflict 0 0 0]) = true := by
  decide +kernel

theorem test_revoke :
    after (.revoke 9 0 0) live
      (fun t => (t.grant 0).body == .closing terms { cause := .revoked, notice := .queued, retireWait := false } &&
        t.tx == .notice (some 0) frame0 && t.cq == [.cmdDone 3 9 .ok 0 1 0]) = true := by
  decide +kernel

theorem test_revokeStale :
    after (.revoke 9 0 1) live (fun t => t.cq == [.cmdDone 3 9 .stale 1 0 0]) = true := by
  decide +kernel

theorem test_forgetRefused :
    after (.forget 9 12) live (fun t => t.cq == [.cmdDone 9 9 .holdsGrants 0 1 0]) = true := by
  decide +kernel

theorem test_hold :
    after (.hold 9 true) (reading .replyWait 2) (fun t => t.hold == .draining && t.freeze &&
      t.cq == [.cmdDone 13 9 .ok 1 1 0]) = true := by
  decide +kernel

theorem test_read :
    after (.read 12 1 0 0 2 2) live
      (fun t => (t.ctx 0).state == .readMem && (t.ctx 0).first == 10 && (t.grant 0).inFlight == 1 &&
        t.port == .busy (some 0) (.read 10)) = true := by
  decide +kernel

theorem test_readOutOfWindow :
    after (.read 12 1 0 0 3 2) live
      (fun t => t.replyQ.map (fun q => q.frame.status) == [.outOfWindow] && t.tx == .reply) = true := by
  decide +kernel

theorem test_write :
    after (.write 12 1 0 0 0 1 [77]) live (fun t => t.port == .busy (some 0) (.write 8 77)) = true := by
  decide +kernel

theorem test_renew :
    after (.renew 12 1 0 0) live
      (fun t => (t.grant 0).body == .live { terms with remaining := some 11, credits := 0 }) = true := by
  decide +kernel

theorem test_probe :
    after (.probe 12 1 0 0) live (fun t => t.replyQ.map (fun q => q.frame.value) == [0x70009]) = true := by
  decide +kernel

theorem test_returnGrant :
    after (.returnGrant 12 1 0 0) live
      (fun t => (t.grant 0) == { gen := 1, inFlight := 0, body := .free } &&
        t.cq == [.retired 0 0 (.station 12) .returned .notDue 7]) = true := by
  decide +kernel

theorem test_unknownKind :
    after (.unknownKindFrame 12 4 0x81) live
      (fun t => t.replyQ.map (fun q => (q.frame.kind, q.frame.seq, q.frame.status)) == [(0x81, 4, .badKind)]) = true := by
  decide +kernel

theorem test_noticeAck :
    after (.noticeAck 12 0 0 0) (notified (.awaitAck 1 2))
      (fun t => t.cq == [.retired 0 0 (.station 12) .revoked .acked 7] && (t.slot 0).queue.isEmpty) = true := by
  decide +kernel

/-- Between ticks a head that a lowered interval already reaches does not expire (R121). -/
theorem test_noticeIntervalExpiryBetweenTicks :
    exec (.noticeIntervalExpiry 0) (notified (.awaitAck 3 4)) = .next (notified (.awaitAck 3 4)) := rfl

theorem test_noticeIntervalExpiry :
    after (.noticeIntervalExpiry 0) { notified (.awaitAck 1 4) with tickPhase := 1000 }
      (fun t => t.tx == .notice (some 0) { frame0 with tryNo := 2 } && (t.slot 0).frame == .sending) = true := by
  decide +kernel

theorem test_noticeOffer :
    after (.noticeOffer 0) (notified .queued) (fun t => t.tx == .notice (some 0) frame0) = true := by
  decide +kernel

theorem test_noticeSent :
    after .noticeSent { notified .queued with tx := .notice (some 0) frame0 }
      (fun t => t.headNotice 0 == some (.awaitAck 1 0) && t.tx == .free) = true := by
  decide +kernel

theorem test_lineDone :
    after (.lineDone 5) (reading .readMem 0)
      (fun t => (t.ctx 0).done == 1 && (t.ctx 0).buffer[0] == 5 && t.port == .busy (some 0) (.read 9)) = true := by
  decide +kernel

theorem test_lineDoneLast :
    after (.lineDone 5) (reading .readMem 1)
      (fun t => (t.ctx 0).state == .replyWait && (t.grant 0).inFlight == 0 && t.tx == .reply && t.port == .free) =
      true := by
  decide +kernel

theorem test_lineBusFault :
    after .lineBusFault (reading .readMem 1)
      (fun t => t.alerts.busFault && t.replyQ.map (fun q => (q.frame.status, q.frame.value)) == [(.memFault, 1)]) =
      true := by
  decide +kernel

theorem test_trainingComplete :
    after .trainingComplete { notified .queued with link := .training }
      (fun t => t.link == .up && t.alerts.linkChange && t.tx == .notice (some 0) frame0) = true := by
  decide +kernel

theorem test_syncLost :
    after .syncLost (reading .replyWait 2)
      (fun t => t.link == .training && (t.ctx 0).state == .idle &&
        (t.slot 0).record.map (fun r => r.pending) == some none) = true := by
  decide +kernel

/-! ### Hypotheses are met -/

/-- An empty grant table is partitioned, sorted, free of conflict and in range. -/
theorem emptyTable_sound {s : State} (hg : s.grants = Vector.replicate 512 Grant.initial)
    (hf : s.freeList = List.finRange 512) (hi : s.index = []) :
    s.GrantListsPartition ∧ s.IndexSorted ∧ s.WindowsCompatible ∧ s.WindowsBelowMemTop ∧ s.TermsInRange := by
  have hb : ∀ g, (s.grant g) = Grant.initial := fun g => by simp [State.grant, hg]
  refine ⟨⟨by rw [hf]; exact List.nodup_finRange 512, by rw [hi]; exact List.nodup_nil, fun g => ?_⟩, ?_, ?_, ?_, ?_, ?_⟩
  · simp [hf, hi, hb, Grant.initial, Body.isFree]
  · simp [State.IndexSorted, hi]
  · intro g h _ t u ht
    simp [hb, Grant.initial, Body.terms?] at ht
  · intro g t ht
    simp [hb, Grant.initial, Body.terms?] at ht
  · intro g t ht
    simp [hb, Grant.initial, Body.terms?] at ht
  · intro g t n ht
    simp [hb, Grant.initial] at ht

/-- With no head frame under way and nothing offered, the offers are sound. -/
theorem offersSound_quiet {s : State} (ho : s.offers = []) (hf : ∀ sl, (s.slot sl).frame = .none)
    (ht : ∀ sl f, s.tx ≠ .notice (some sl) f) : s.OffersSound := by
  refine ⟨by rw [ho]; exact List.nodup_nil, fun sl => ⟨?_, ?_⟩⟩
  · simp [ho, hf]
  · simp [hf, ht]

theorem up_canTake : up.CanTake := ⟨rfl, rfl, rfl, by decide⟩

theorem live_canTake : live.CanTake := ⟨rfl, rfl, rfl, by decide⟩

theorem live_serves : live.Serves 12 0 station12 { epoch := 5, last := 0 } :=
  ⟨⟨rfl, rfl, by decide⟩, by decide +kernel, by decide +kernel, rfl, rfl, rfl⟩

theorem live_eager : live.TransmitterEager := fun _ _ => ⟨rfl, rfl⟩

theorem live_body : (live.grant 0).body = .live terms ∧ (live.grant 0).gen = 0 := by decide +kernel

theorem notified_grant (n : Notice) (g : GrantNum) :
    (notified n).grant g =
      if g = 0 then
        { gen := 0, inFlight := 0, body := .closing terms { cause := .revoked, notice := n, retireWait := false } }
      else Grant.initial := by
  show State.grant (State.setGrant (withStation station12 up) 0 _) g = _
  rw [State.grant_setGrant]
  by_cases h : g = 0
  · simp [h]
  · simp [h, Ne.symm h, State.grant, withStation, State.setSlot, up, State.reset]

theorem notified_slot (n : Notice) (sl : SlotNum) :
    (notified n).slot sl =
      if sl = 0 then { record := some station12, queue := [0], frame := .none } else Slot.initial := by
  show (notified .queued).slot sl = _
  revert sl
  decide +kernel

theorem notified_offersSound (n : Notice) : (notified n).OffersSound :=
  offersSound_quiet rfl (fun sl => by rw [notified_slot]; split <;> rfl) (fun _ _ h => by cases h)

theorem notified_eager (n : Notice) : (notified n).TransmitterEager := fun _ _ => ⟨rfl, rfl⟩

theorem notified_stationsDistinct (n : Notice) : (notified n).StationsDistinct := by
  intro sl tl x y hx hy _
  rw [notified_slot] at hx hy
  by_cases h1 : sl = 0
  · by_cases h2 : tl = 0
    · rw [h1, h2]
    · simp [h2, Slot.initial] at hy
  · simp [h1, Slot.initial] at hx

theorem notified_queuesSound {n : Notice} (hn : n.isOpen = true) : (notified n).NoticeQueuesSound := by
  intro sl
  by_cases h : sl = 0
  · subst h
    simp only [notified_slot, notified_grant, if_true]
    refine ⟨by decide, by simp, fun g => ?_, by simp⟩
    by_cases hg : g = 0
    · subst hg
      simp [terms, station12, hn]
    · simp [hg, Grant.initial]
  · simp [notified_slot, h, Slot.initial]

/-- An ISSUE of a SHARED READ grant of lines 0 to 9. -/
def sharedIssue : IssueFields :=
  { station := 0, shared := true, read := true, write := false, notify := false, lifetimePresent := false, length := 10,
    base := 0, credits := 0, cookie := 1, lifetime := 0, renewAmount := 0 }

theorem test_witness_OnlyPowerOnResetMovesPinsAndSelf :
    isPowerOnReset .tick = false ∧ ({ State.reset with resetnLow := true } : State).resetnLow = true := ⟨rfl, rfl⟩

theorem test_witness_FirstIssuesAllocateInOrder :
    (up.CanTake ∧ firstFailure (up.issueChecks sharedIssue) = none ∧ up.freeList = (List.finRange 512).drop 0 ∧
      ∀ g, (up.grant g).gen = 0) ∧
    ∃ s : State, s.CanTake ∧ firstFailure (s.issueChecks sharedIssue) = none ∧
      s.freeList = (List.finRange 512).drop (511 : Fin 512).val ∧ ∀ g, (s.grant g).gen = 0 :=
  ⟨⟨up_canTake, by decide +kernel, rfl, fun g => by simp [State.grant, up, State.reset, Grant.initial]⟩,
    { up with freeList := (List.finRange 512).drop 511 }, ⟨rfl, rfl, rfl, by decide⟩, by decide +kernel, rfl,
    fun g => by simp [State.grant, up, State.reset, Grant.initial]⟩

/-- EngineResetClears, AlertsAndIgnoredWrites, FilterDiscardsFrames and others ask only that the part is not in reset. -/
theorem test_witness_notInReset : State.reset.inReset = false ∧ up.inReset = false := ⟨rfl, rfl⟩

theorem test_witness_EngineResetRebuildsFreeList : up.inReset = false ∧ up.GrantListsPartition :=
  ⟨rfl, (emptyTable_sound rfl rfl rfl).1⟩

theorem test_witness_ControlWriteIsOneEvent :
    ((0x10#32).getLsbD 0 = State.reset.linkEnable ∧ State.reset.link = .down) ∧
    ((1#32).getLsbD 0 = up.linkEnable ∧ up.linkEnable = true ∧ (1#32).getLsbD 1 = false) ∧
    (({ State.reset with self := 5 } : State).selfValid = true ∧ State.reset.linkEnable = false) ∧
    (State.reset.selfValid = false ∧ (0#32).getLsbD 0 = false ∧
      ({ up with link := .training } : State).link = .training) := by decide

theorem test_witness_LinkLeavingUpDropsFrames :
    (reading .replyWait 2).inReset = false ∧ (reading .replyWait 2).link = .up ∧ (0x10#32).getLsbD 0 = false ∧
      (0x10#32).getLsbD 1 = false := by decide

theorem test_witness_TrainingCompletesWithDueOffers :
    (∃ s : State, s.inReset = false ∧ s.link = .training ∧ s.QuietLink) ∧ up.link ≠ .training ∧
      State.reset.link = .down :=
  ⟨⟨{ up with link := .training }, rfl, rfl, fun _ =>
      ⟨rfl, rfl, rfl, rfl, rfl, by decide +kernel, by decide +kernel⟩⟩, by decide, rfl⟩

theorem test_witness_LinkChangeLatches :
    WellFormed (.linkDisable 0) = true ∧ clearsLinkChange (.linkDisable 0) = false ∧
      WellFormed (.alertsClear 14) = true ∧ clearsLinkChange (.alertsClear 14) = false := by decide

theorem test_witness_StagingWordsHoldWhatIsWritten :
    WellFormed (.submit 0) = true ∧ (∀ i v, (Instr.submit 0) ≠ .stageWrite i v) ∧ WellFormed (.linkEnable 3) = true ∧
      resetsPart (.linkEnable 3) = true := ⟨rfl, (fun _ _ h => by cases h), rfl, rfl⟩

theorem test_witness_AlertsAndIgnoredWrites :
    WellFormed (.ignoredWrite 0x44 15 0) = true ∧ WellFormed (.ignoredWrite 0x04 14 0) = true := by decide

theorem up_queuesSound : up.QueuesSound :=
  ⟨by decide, by decide, fun h => absurd rfl h, List.nodup_nil, (fun _ h => by cases h)⟩

theorem test_witness_WindowShowsState :
    up.QueuesSound ∧ up.inReset = false ∧ ∃ s : State, s.QueuesSound ∧ s.inReset = true :=
  ⟨up_queuesSound, rfl, { State.reset with supplyOut := true },
    ⟨by decide, by decide, fun h => absurd rfl h, List.nodup_nil, (fun _ h => by cases h)⟩, rfl⟩

theorem test_witness_SubmitFollowsFifo :
    hostRecord up (.resume 3) = some (encodeCommand 3 .resume) ∧ hostRecord up (.submit 0) = some up.stage ∧
    (∃ s : State, s.inReset = false ∧ 16 ≤ s.fifo.length) ∧
    ∃ s : State, s.inReset = false ∧ s.fifo.length = 15 ∧ s.cq.length = 64 :=
  ⟨rfl, rfl, ⟨{ up with fifo := List.replicate 16 up.stage }, rfl, by decide⟩,
    { up with fifo := List.replicate 15 up.stage, cq := List.replicate 64 .holdReached }, rfl, by decide, by decide⟩

theorem test_witness_TakenCommandPlacesDoneRecord :
    up.CanTake ∧ hostRecord up (.submit 0) = some up.stage := ⟨up_canTake, rfl⟩

theorem test_witness_CqAckFreesOneSlot :
    (∃ s : State, s.cq ≠ [] ∧ s.backlog = [] ∧ s.fifo = []) ∧ (∃ s : State, s.cq ≠ [] ∧ s.backlog ≠ []) ∧
    (∃ s : State, s.cq.length = 64 ∧ s.backlog = [] ∧ s.fifo = [s.stage]) ∧ WellFormed .tick = true ∧
    (∀ v, Instr.tick ≠ .cqAck v) ∧ resetsPart .tick = false :=
  ⟨⟨{ up with cq := [.holdReached] }, by decide, rfl, rfl⟩,
    ⟨{ up with cq := [.holdReached], backlog := [.holdReached] }, by decide, by decide⟩,
    ⟨{ up with cq := List.replicate 64 .holdReached, fifo := [up.stage] }, by decide, rfl, rfl⟩, rfl,
    (fun _ h => by cases h), rfl⟩

theorem test_witness_BacklogPlacePlacesHead :
    (∃ s : State, s.cq.length < 64 ∧ s.backlog = [.grant 0] ∧
      ∃ t c, (s.grant 0).body = .closing t c) ∧
    (∃ s : State, s.backlog = [.admitted 0] ∧ ∃ r, (s.slot 0).record = some r) ∧
    (∃ s : State, s.backlog = [.restarted 0] ∧ ∃ r w, (s.slot 0).record = some r ∧ r.restartWaiting = some w) ∧
    ∃ s : State, s.cq.length < 64 ∧ s.backlog = [.holdReached] :=
  ⟨⟨{ notified .acked with backlog := [.grant 0] }, by decide, rfl, terms, _, by
      show ((notified .acked).grant 0).body = _
      rw [notified_grant]; rfl⟩,
    ⟨{ live with backlog := [.admitted 0] }, rfl, station12, by decide +kernel⟩,
    ⟨{ withStation { station12 with restartWaiting := some { epoch := 5, swept := 1, merged := 1 } } up with
        backlog := [.restarted 0] }, rfl, _, _, rfl, rfl⟩,
    { up with backlog := [.holdReached] }, by decide, rfl⟩

theorem test_witness_IssueRefusedByFirstFailingCheck :
    firstFailure (State.reset.issueChecks sharedIssue) = some (.badWindow, 0, 0) ∧ State.reset.CanTake :=
  ⟨by decide +kernel, rfl, rfl, rfl, by decide⟩

theorem test_witness_IssueAllocates :
    up.CanTake ∧ up.GrantListsPartition ∧ up.IndexSorted ∧ firstFailure (up.issueChecks sharedIssue) = none ∧
      up.freeList = 0 :: (List.finRange 512).drop 1 := by
  obtain ⟨h1, h2, _⟩ := emptyTable_sound (s := up) rfl rfl rfl
  exact ⟨up_canTake, h1, h2, by decide +kernel, by decide +kernel⟩

/-- An AMEND of grant 0/0 that keeps everything but the notify field. -/
def plainAmend : AmendFields :=
  { grant := 0, gen := 0, lifetimeAction := 0, notifyAction := 2, renewSet := false, rightsSet := false, read := false,
    write := false, lengthSet := false, length := 0, credits := 0, lifetime := 0, renewAmount := 0 }

theorem test_witness_AmendAndRevokeRefused :
    live.CanTake ∧ firstFailure (live.referenceChecks 512 0) = some (.badRef, 0, 0) ∧
      firstFailure (live.referenceChecks 511 0) = some (.stale, 0, 0) ∧
      firstFailure (live.amendChecks { plainAmend with lifetimeAction := 3 } 0 terms) = some (.badField, 0, 0) :=
  ⟨live_canTake, by decide +kernel, by decide +kernel, by decide +kernel⟩

theorem test_witness_AmendApplies :
    live.CanTake ∧ plainAmend.grant.toNat = (0 : GrantNum).val ∧ (live.grant 0).gen = plainAmend.gen ∧
      (live.grant 0).body = .live terms ∧ firstFailure (live.amendChecks plainAmend 0 terms) = none :=
  ⟨live_canTake, rfl, live_body.2, live_body.1, by decide +kernel⟩

theorem test_witness_RevokeCloses :
    live.CanTake ∧ live.TransmitterEager ∧ (0 : BitVec 16).toNat = (0 : GrantNum).val ∧ (live.grant 0).gen = 0 ∧
      (live.grant 0).body = .live terms := ⟨live_canTake, live_eager, rfl, live_body.2, live_body.1⟩

theorem test_witness_SweepCloses :
    live.CanTake ∧ live.TransmitterEager ∧ (12 : StationNum) ≠ 0 ∧ (12 : StationNum) ≠ 63 :=
  ⟨live_canTake, live_eager, by decide, by decide⟩

/-- QueryGrantReports, QueryLineReports and QueryStationReports. -/
theorem test_witness_Queries :
    live.CanTake ∧ (512 : BitVec 16).toNat ≥ 512 ∧ (511 : BitVec 16).toNat = (511 : GrantNum).val ∧
      (268435455 : Word).toNat < 268435456 ∧ live.findSlot 12 = some 0 ∧ (live.slot 0).record = some station12 ∧
      live.findSlot 13 = none :=
  ⟨live_canTake, by decide, rfl, by decide, by decide +kernel, by decide +kernel, by decide +kernel⟩

/-- Every slot taken, by stations 1 to 16. -/
def crowded : State :=
  { up with
    slots := Vector.ofFn (fun sl : SlotNum =>
      { Slot.initial with record := some { station12 with number := BitVec.ofNat 6 (sl.val + 1) } }) }

theorem test_witness_AdmitAndBarSetRecord :
    live.CanTake ∧ live.findSlot 12 = some 0 ∧ (live.slot 0).record = some station12 ∧ live.findSlot 13 = none ∧
      (live.slot 1).record = none ∧ (∀ k < (1 : SlotNum), (live.slot k).record ≠ none) ∧ crowded.CanTake ∧
      crowded.findSlot 20 = none ∧ (∀ k, (crowded.slot k).record ≠ none) ∧ (512 : BitVec 16).toNat ≤ 512 :=
  ⟨live_canTake, by decide +kernel, by decide +kernel, by decide +kernel, by decide +kernel, by decide +kernel,
    ⟨rfl, rfl, rfl, by decide⟩, by decide +kernel, by decide +kernel, by decide⟩

theorem test_witness_ForgetVacatesSlot :
    (live.findSlot 12 = some 0 ∧ (live.slot 0).record = some station12 ∧ 0 < station12.held) ∧
      ∃ s : State, s.CanTake ∧ s.findSlot 12 = some 0 ∧ (s.slot 0).record = some { station12 with held := 0 } :=
  ⟨⟨by decide +kernel, by decide +kernel, by decide⟩,
    withStation { station12 with held := 0 } up, ⟨rfl, rfl, rfl, by decide⟩, by decide +kernel, by decide +kernel⟩

theorem test_witness_SetLimitsSetsLimits :
    up.CanTake ∧ (∀ g ∈ up.index, ∀ t, (up.grant g).body.terms? = some t → t.base + t.length ≤ 0) ∧ up.index = [] ∧
      live.index = [0] ∧ (live.grant 0).body.terms? = some terms ∧ terms.base + terms.length = 12 :=
  ⟨up_canTake, (fun _ h => by cases h), rfl, rfl, by decide +kernel, rfl⟩

theorem test_witness_SetTimingSetsTiming :
    up.CanTake ∧
      (let f : TimingFields :=
        { keepPeriod := false, period := 3, keepInterval := false, interval := 15, keepTries := false, tries := 7 }
      ¬ ((f.keepPeriod = false ∧ 3 < f.period.toNat) ∨ (f.keepInterval = false ∧ f.interval = 0) ∨
        (f.keepTries = false ∧ f.tries = 0))) ∧ 3 < (4 : BitVec 3).toNat :=
  ⟨up_canTake, by decide, by decide⟩

theorem test_witness_HoldResumeAndBadCommand :
    up.CanTake ∧ up.hold = .running ∧ (∃ s : State, s.CanTake ∧ s.hold ≠ .running) ∧
      WellFormed (.badCommand 0 0) = true ∧ WellFormed (.badCommand 0 15) = true :=
  ⟨up_canTake, rfl, ⟨{ up with hold := .held }, ⟨rfl, rfl, rfl, by decide⟩, by decide⟩, rfl, rfl⟩

theorem test_witness_FilterDiscardsFrames :
    up.link = .up ∧ ([] : List Byte).length < 20 ∧ State.reset.link ≠ .up ∧ 1044 < (List.replicate 1108 (0 : Byte)).length :=
  ⟨rfl, by decide, by decide, by simp⟩

theorem test_witness_FrameBytesRoundTrip :
    WellFormed (.hello 12 1 6 7) = true ∧ arrivalOfRow (.hello 12 1 6 7) = some (.hello 12 1 6 7) ∧
      up.CanReceive 12 ∧ up.selfValid = true ∧
      WellFormed (.write 62 1 0 0 0 16 (List.replicate 16 0)) = true ∧ up.CanReceive 62 :=
  ⟨by decide, rfl, ⟨rfl, rfl, by decide⟩, by decide, by decide, rfl, rfl, by decide⟩

theorem test_witness_RefusedBeforeSequence :
    up.CanReceive 12 ∧ up.findSlot 12 = none ∧ up.policy = .opened ∧ crowded.CanReceive 20 ∧ crowded.findSlot 20 = none ∧
      (∀ k, (crowded.slot k).record ≠ none) ∧
      (∃ s : State, s.CanReceive 12 ∧ s.findSlot 12 = some 0 ∧ ∃ x, (s.slot 0).record = some x ∧ x.barred = true) ∧
      (∃ s : State, s.CanReceive 12 ∧ s.findSlot 12 = some 0 ∧ s.hold ≠ .running ∧
        ∃ x, (s.slot 0).record = some x ∧ x.barred = false) ∧
      ∃ s : State, s.CanReceive 12 ∧ s.findSlot 12 = some 0 ∧ s.hold = .running ∧
        ∃ x, (s.slot 0).record = some x ∧ x.barred = false ∧ x.session = none :=
  ⟨⟨rfl, rfl, by decide⟩, by decide +kernel, rfl, ⟨rfl, rfl, by decide⟩, by decide +kernel, by decide +kernel,
    ⟨withStation { station12 with barred := true } up, ⟨rfl, rfl, by decide⟩, by decide +kernel, _, rfl, rfl⟩,
    ⟨{ live with hold := .held }, ⟨rfl, rfl, by decide⟩, by decide +kernel, by decide, station12, by decide +kernel,
      rfl⟩,
    withStation { station12 with session := none } up, ⟨rfl, rfl, by decide⟩, by decide +kernel, rfl, _, rfl, rfl, rfl⟩

/-- A request of station 12 against 0/0 with the next sequence number. -/
def request (k : ReqKind) : Request := plainRequest k 12 1 0 0

theorem test_witness_SequenceRuleAnswers :
    requestOfRow (.renew 12 0 0 0) = some (plainRequest .renew 12 0 0 0) ∧
      live.Serves 12 0 station12 { epoch := 5, last := 0 } ∧ station12.pending = none ∧
      (∃ (s : State) (x : Station) (e : Session), s.Serves 12 0 x e ∧ x.pending ≠ none) ∧
      ∃ (s : State) (x : Station) (e : Session) (k : Cache), s.Serves 12 0 x e ∧ x.pending = none ∧ x.cache = some k ∧
        k.kind = .renew :=
  ⟨rfl, live_serves, rfl,
    ⟨withStation { station12 with pending := some 0 } up, _, _,
      ⟨⟨rfl, rfl, by decide⟩, by decide +kernel, rfl, rfl, rfl, rfl⟩, by decide⟩,
    withStation { station12 with cache := some { kind := .renew, seq := 0, status := .ok, value := 9 } } up, _, _, _,
    ⟨⟨rfl, rfl, by decide⟩, by decide +kernel, rfl, rfl, rfl, rfl⟩, rfl, rfl, rfl⟩

theorem test_witness_RequestRefusedByFirstFailingCheck :
    requestOfRow (.renew 12 1 512 0) = some (plainRequest .renew 12 1 512 0) ∧
      live.Serves 12 0 station12 { epoch := 5, last := 0 } ∧
      PassesSequence station12 { epoch := 5, last := 0 } (plainRequest .renew 12 1 512 0) false ∧
      firstFailure (live.requestChecks (plainRequest .renew 12 1 512 0)) = some .badRef ∧
      firstFailure (live.requestChecks (plainRequest .renew 12 1 511 0)) = some .stale ∧
      ∃ s : State, s.Serves 12 0 station12 { epoch := 5, last := 0 } ∧
        firstFailure (s.requestChecks { request .read with count := 4 }) = none ∧ ∀ k, (s.ctx k).state ≠ .idle :=
  ⟨rfl, live_serves, ⟨rfl, Or.inl ⟨rfl, rfl⟩⟩, by decide +kernel, by decide +kernel,
    { live with ctxs := Vector.replicate 8 { Ctx.initial with state := .replyWait } },
    ⟨⟨rfl, rfl, by decide⟩, by decide +kernel, by decide +kernel, rfl, rfl, rfl⟩, by decide +kernel, by decide +kernel⟩

theorem live_reaches (k : ReqKind) : live.ReachesLive (request k) 0 terms :=
  ⟨rfl, live_body.2, live_body.1, Or.inl rfl⟩

theorem test_witness_TransferBinds :
    requestOfRow (.read 12 1 0 0 3 1) = some { request .read with offset := 3, count := 1 } ∧
      live.Serves 12 0 station12 { epoch := 5, last := 0 } ∧
      PassesSequence station12 { epoch := 5, last := 0 } { request .read with offset := 3, count := 1 } false ∧
      firstFailure (live.requestChecks { request .read with offset := 3, count := 1 }) = none ∧
      live.ReachesLive { request .read with offset := 3, count := 1 } 0 terms ∧ (live.ctx 0).state = .idle ∧
      (∀ j < (0 : CtxNum), (live.ctx j).state ≠ .idle) ∧ live.PortEager ∧
      (∃ (x : Station) (e : Session) (r : Request), r.kind = .read ∧ PassesSequence x e r true) :=
  ⟨rfl, live_serves, ⟨rfl, Or.inl ⟨rfl, rfl⟩⟩, by decide +kernel, live_reaches .read, by decide +kernel,
    fun j h => absurd h (Nat.not_lt_zero j.val), fun _ => by decide +kernel,
    { station12 with cache := some { kind := .read, seq := 1, status := .ok, value := 1 } }, { epoch := 5, last := 1 },
    request .read, rfl, rfl, Or.inr ⟨rfl, rfl, Or.inl rfl, _, rfl, rfl⟩⟩

theorem test_witness_RenewProbeReturnAnswered :
    (∀ k, live.ReachesLive (request k) 0 terms) ∧ live.Serves 12 0 station12 { epoch := 5, last := 0 } ∧
      (∀ k, PassesSequence station12 { epoch := 5, last := 0 } (request k) false) ∧
      firstFailure (live.requestChecks (request .renew)) = none ∧
      firstFailure (live.requestChecks (request .probe)) = none ∧
      firstFailure (live.requestChecks (request .returnGrant)) = none ∧ terms.remaining = some 9 ∧
      terms.renewAmount = some 2 :=
  ⟨live_reaches, live_serves, fun _ => ⟨rfl, Or.inl ⟨rfl, rfl⟩⟩, by decide +kernel, by decide +kernel,
    by decide +kernel, rfl, rfl⟩

/-- HelloResynchronises (epoch 5), HelloRestarts (another epoch) and HelloAdmits. -/
theorem test_witness_Hello :
    live.Serves 12 0 station12 { epoch := 5, last := 0 } ∧ (5 : BitVec 16) ≠ 6 ∧ live.OffersSound ∧ up.CanReceive 12 ∧
      up.findSlot 12 = none ∧ (∀ g, (up.grant g).body.holder? ≠ some (.station 12)) ∧
      up.slot 0 = { record := none, queue := [], frame := .none } ∧ up.policy = .opened ∧ up.hold = .running :=
  ⟨live_serves, by decide, offersSound_quiet rfl (by decide +kernel) (fun _ _ h => by cases h), ⟨rfl, rfl, by decide⟩,
    by decide +kernel, fun g => by simp [State.grant, up, State.reset, Grant.initial, Body.holder?, Body.terms?],
    by decide +kernel, rfl, rfl⟩

theorem test_witness_NoticeAckEndsNotice :
    (notified (.awaitAck 1 0)).CanReceive 12 ∧ (notified (.awaitAck 1 0)).findSlot 12 = some 0 ∧
      ((notified (.awaitAck 1 0)).slot 0).queue = [0] ∧ ((notified (.awaitAck 1 0)).grant 0).gen = 0 ∧
      (notified (.awaitAck 1 0)).OffersSound ∧ (notified (.awaitAck 1 0)).TransmitterEager ∧
      live.findSlot 12 = some 0 ∧ (live.slot 0).queue = [] :=
  ⟨⟨rfl, rfl, by decide⟩, by decide +kernel, by decide +kernel, by decide +kernel, notified_offersSound _,
    notified_eager _, by decide +kernel, by decide +kernel⟩

theorem test_witness_TickCounts :
    (notified (.awaitAck 3 4)).inReset = false ∧ (notified (.awaitAck 3 4)).TransmitterEager ∧
      (notified (.awaitAck 3 4)).StationsDistinct ∧ (notified (.awaitAck 3 4)).NoticeQueuesSound :=
  ⟨rfl, notified_eager _, notified_stationsDistinct _, notified_queuesSound rfl⟩

/-- `notified n` at a tick: its tick period is 1 ms. -/
def atTickWith (n : Notice) : State := { notified n with tickPhase := 1000 }

theorem test_witness_ExpiryRowsAct :
    (∀ n, (atTickWith n).tickPhase = (atTickWith n).tickPeriod.micros) ∧
      (notified (.awaitAck 3 4)).tickPhase ≠ (notified (.awaitAck 3 4)).tickPeriod.micros ∧
      (atTickWith (.awaitAck 2 4)).countedHead 0 = some (0, 2, 4) ∧
      (atTickWith (.awaitAck 3 4)).countedHead 0 = some (0, 3, 4) ∧
      (atTickWith (.awaitAck 3 3)).countedHead 0 = some (0, 3, 3) ∧ (atTickWith .queued).countedHead 0 = none ∧
      (atTickWith (.awaitAck 3 4)).NoticeQueuesSound ∧ (∀ n, (atTickWith n).TransmitterEager) :=
  ⟨fun _ => rfl, by decide, by decide +kernel, by decide +kernel, by decide +kernel, by decide +kernel,
    notified_queuesSound (n := .awaitAck 3 4) rfl, fun _ _ _ => ⟨rfl, rfl⟩⟩

theorem test_witness_NoticeOfferBuildsFrame :
    ((notified .queued).slot 0).queue = [0] ∧ (notified .queued).link = .up ∧
      ((notified .queued).slot 0).frame = .none ∧ (notified .queued).TransmitterEager ∧
      (0 : SlotNum) ∉ (notified (.awaitAck 1 0)).newHeads ∧ (notified .queued).tx = .free ∧
      ({ notified .queued with tx := .reply } : State).TransmitterEager :=
  ⟨by decide +kernel, rfl, by decide +kernel, notified_eager _, by decide +kernel, rfl, (fun _ h => by cases h)⟩

/-- A slot's frame waits in the offer list. -/
def offered : State :=
  { notified .queued with offers := [0] }.setSlot 0
    { record := some station12, queue := [0], frame := .offered frame0 }

theorem test_witness_TransmitterChoosesAndCompletes :
    (offered.link = .up ∧ offered.tx = .free ∧ offered.replyQ = [] ∧ offered.offers = [0] ∧
      (offered.slot 0).frame = .offered frame0) ∧
    (∃ (s : State) (f : Reply), s.link = .up ∧ s.tx = .reply ∧ s.replyQ = [{ origin := .immediate, frame := f }]) ∧
    (∃ (s : State) (f : Reply), s.tx = .reply ∧ s.replyQ = [{ origin := .context 0, frame := f }]) ∧
    ∃ s : State, s.tx = .notice none frame0 :=
  ⟨⟨rfl, rfl, rfl, rfl, by decide +kernel⟩,
    ⟨{ up with tx := .reply, replyQ := [{ origin := .immediate, frame := (request .renew).reply up .busy 0 false }] },
      _, rfl, rfl, rfl⟩,
    ⟨{ up with tx := .reply, replyQ := [{ origin := .context 0, frame := (request .read).reply up .ok 2 false }] },
      _, rfl, rfl⟩,
    { up with tx := .notice none frame0 }, rfl⟩

theorem test_witness_ContextReplySentFreesContext :
    ∃ (s : State) (f : Reply), s.inReset = false ∧ s.tx = .reply ∧ s.replyQ = [{ origin := .context 0, frame := f }] :=
  ⟨{ up with tx := .reply, replyQ := [{ origin := .context 0, frame := (request .read).reply up .ok 2 false }] }, _,
    rfl, rfl, rfl⟩

theorem test_witness_NoticeSentAwaitsAck :
    ∃ s : State, s.tx = .notice (some 0) frame0 ∧ (s.slot 0).queue = [0] ∧
      (s.grant 0).body = .closing terms { cause := .revoked, notice := .queued, retireWait := false } :=
  ⟨{ notified .queued with tx := .notice (some 0) frame0 }, rfl, by decide +kernel, by decide +kernel⟩

theorem test_witness_LineOperationsStartAndEnd :
    (∃ s : State, s.port = .free ∧ s.lastServed = 7 ∧ (s.ctx (7 + 1 + 0)).lineLeft = true) ∧
      (reading .readMem 0).port = .busy (some 0) (.read 8) ∧ ((reading .readMem 0).ctx 0).inMemoryPhase = true ∧
      ((reading .readMem 0).ctx 0).done + 1 ≠ ((reading .readMem 0).ctx 0).count ∧
      (reading .readMem 0).TransmitterEager ∧ ∃ s : State, s.port = .busy none (.write 5 6) ∧ s.TransmitterEager :=
  ⟨⟨{ reading .readMem 0 with port := .free }, rfl, rfl, by decide +kernel⟩, rfl, by decide +kernel, by decide +kernel,
    fun _ _ => ⟨rfl, rfl⟩, { up with port := .busy none (.write 5 6) }, rfl, fun _ _ => ⟨rfl, rfl⟩⟩

theorem test_witness_OnlyAcceptedLineWritesChangeMemory :
    (∃ s : State, s.inReset = false ∧ s.port = .busy none (.write 5 6)) ∧
      ∀ owner a l, up.port = .busy owner (.write a l) → ¬ up.inReset = true →
        (∀ data, Instr.tick ≠ .lineDone data) ∧ (owner = none → ∀ data, Instr.tick ≠ .detachedLineEnd (.done data)) :=
  ⟨⟨{ up with port := .busy none (.write 5 6) }, rfl, rfl⟩, (fun _ _ _ h => by cases h)⟩

theorem test_witness_MemoryPhaseEnds :
    (reading .readMem 1).port = .busy (some 0) (.read 9) ∧ ((reading .readMem 1).ctx 0).inMemoryPhase = true ∧
      ((reading .readMem 1).slot ((reading .readMem 1).ctx 0).slot).record =
        some { station12 with pending := some 0 } ∧
      ((reading .readMem 1).ctx 0).done + 1 = ((reading .readMem 1).ctx 0).count ∧
      ((reading .readMem 1).ctx 0).fault = false :=
  ⟨rfl, by decide +kernel, by decide +kernel, by decide +kernel, by decide +kernel⟩

/-- An orphaned context of a station that the host has forgotten: no record is asked for. -/
theorem test_witness_MemoryPhaseEnds_orphaned :
    ∃ s : State, s.inReset = false ∧ s.port = .busy (some 0) (.read 8) ∧ (s.ctx 0).inMemoryPhase = true ∧
      (s.ctx 0).orphaned = true ∧ (s.slot (s.ctx 0).slot).record = none ∧ (s.ctx 0).done + 1 = (s.ctx 0).count :=
  ⟨{ up.setCtx 0 { Ctx.initial with state := .readMem, first := 8, count := 1, issued := 1, orphaned := true } with
      port := .busy (some 0) (.read 8) }, by decide +kernel⟩

theorem test_witness_GrantReadyAndDrainEnd :
    (notified .acked).readyAmong [0] = [0] ∧ (notified .queued).readyAmong [0] = [] := by decide +kernel

/-- ListsPartitionKept, GrantedWindowsStaySafe, QueuesStaySound, LinkStateStaysConsistent, HoldAndSettingsStayConsistent and
InFlightStaysCounted: the invariants that they assume hold together, at a state other than the one after reset. -/
theorem test_witness_Invariants :
    up.GrantListsPartition ∧ up.IndexSorted ∧ up.WindowsCompatible ∧ up.WindowsBelowMemTop ∧ up.TermsInRange ∧
      up.QueuesSound ∧ up.QuietLink ∧ up.LinkFollowsEnable ∧ up.RepliesCounted ∧ up.OffersSound ∧ up.TransmitterEager ∧
      up.PortEager ∧ up.HoldConsistent ∧ up.SettingsInRange ∧ step up = .next up := by
  obtain ⟨h1, h2, h3, h4, h5⟩ := emptyTable_sound (s := up) rfl rfl rfl
  refine ⟨h1, h2, h3, h4, h5, up_queuesSound, fun h => absurd rfl h, ⟨?_, ?_⟩, ⟨rfl, by decide, (fun h => by cases h)⟩,
    offersSound_quiet rfl (by decide +kernel) (fun _ _ h => by cases h), fun _ _ => ⟨rfl, rfl⟩,
    fun _ => by decide +kernel, ⟨(fun h => by cases h), (fun h => by cases h), (fun h => by cases h)⟩, ?_, rfl⟩
  · exact ⟨(fun h => by cases h), (fun h => by cases h)⟩
  · intro h
    exact absurd h (by decide)
  · exact ⟨by decide, by decide, by decide, by decide, by decide, by decide, by decide, by decide, rfl⟩

/-- InFlightStaysCounted and StationCountsStayTrue. -/
theorem test_witness_Counts :
    up.InFlightCounted ∧ up.StationsDistinct ∧ up.HeldCounted ∧ up.NoticeQueuesSound := by
  have hg : ∀ g, up.grant g = Grant.initial := fun g => by simp [State.grant, up, State.reset]
  have hs : ∀ sl, up.slot sl = Slot.initial := by decide +kernel
  have hc : ∀ c, (up.ctx c).inMemoryPhase = false := by decide +kernel
  refine ⟨fun g => ⟨?_, ?_, ?_⟩, ?_, fun n => ?_, fun sl => ?_⟩
  · simp [hg, hc, Grant.initial]
  · simp [hg, Grant.initial]
  · simp [hg, Grant.initial]
  · intro sl tl x y hx
    simp [hs, Slot.initial] at hx
  · simp [hg, hs, Grant.initial, Body.holder?, Body.terms?, State.findSlot, Slot.names, Slot.initial]
  · simp [hs, hg, Slot.initial, Grant.initial]

end Sys2Proof.Tests
end

section
/-! PROOFS. The grant table's free list: the order in which ISSUE allocates after power-on reset (R11), and the list
that an engine reset rebuilds (R12). -/

namespace Sys2Proof.Machine

/-! ### Arms of `exec` -/

theorem exec_powerOnReset (low out : Bool) (straps : BitVec 6) (s : State) :
    exec (.powerOnReset low out straps) s = .next (powerOn low out straps s) := rfl

theorem exec_engineReset (v : Word) (s : State) :
    exec (.engineReset v) s = event (controlWrite (withBit v 1 true)) s := rfl

theorem exec_issue (tag : BitVec 16) (f : IssueFields) (s : State) :
    exec (.issue tag f) s = command tag (.issue f) s := rfl

/-! ### Checks in order -/

/-- No check fails exactly when the test of each one is false. -/
theorem firstFailure_eq_none_iff {α : Type} {checks : List (Bool × α)} :
    firstFailure checks = none ↔ ∀ c ∈ checks, c.1 = false := by
  simp [firstFailure]

/-! ### The conflict rule and the checks of ISSUE, as the statements put them -/

/-- Two holders differ, SHARED from every holder (R16). -/
theorem Holder.differs_iff (a b : Holder) : a.differs b = true ↔ a = .shared ∨ b = .shared ∨ a ≠ b := by
  cases a <;> cases b <;> simp [Holder.differs]

/-- Rights carry WRITE unless they are READ alone (R2). -/
theorem Rights.hasWrite_iff (r : Rights) : r.hasWrite = true ↔ r ≠ .read := by
  cases r <;> simp [Rights.hasWrite]

/-- The model's test for a conflict is the rule's (R16). -/
theorem Terms.conflicts_eq (t u : Terms) : t.conflicts u = windowsConflict t u := by
  rw [Bool.eq_iff_iff]
  simp only [Terms.conflicts, windowsConflict, Terms.sharesLine, Bool.and_eq_true, Bool.or_eq_true, decide_eq_true_eq,
    Holder.differs_iff, Rights.hasWrite_iff, and_assoc]
  rfl

/-- The first conflict is the head of the conflicting entries (R17, R18). -/
theorem State.firstConflict_eq_head? (s : State) (skip : Option GrantNum) (t : Terms) :
    s.firstConflict skip t = (s.conflicting skip t).head? := by
  rw [State.firstConflict, State.conflicting, List.head?_filter]
  congr 1
  funext g
  cases (s.grant g).body.terms? with
  | none => rfl
  | some u => exact congrArg (some g != skip && ·) (Terms.conflicts_eq t u)

/-- Flags that are not both 0 give rights, and ISSUE fills the record with them (R20, R146). -/
theorem ofFlags_issueTerms {f : IssueFields} (h : ¬ (f.read = false ∧ f.write = false)) :
    ∃ rights, Rights.ofFlags f.read f.write = some rights ∧ issueTerms f rights = issuedTerms f := by
  have hr : (if f.credits.toNat = 0 then none else some f.renewAmount.toNat) =
      if 0 < f.credits.toNat then some f.renewAmount.toNat else none := by
    simp only [Nat.pos_iff_ne_zero, ne_eq, ite_not]
  cases hread : f.read <;> cases hwrite : f.write
  case false.false => exact absurd ⟨hread, hwrite⟩ h
  all_goals exact ⟨_, rfl, by simp only [issueTerms, issuedTerms, holderOf, hr, hread, hwrite]; rfl⟩

/-- A holder field is out of range when it names station 0 or 63 without SHARED (R146). -/
theorem validHolder_eq_false_iff (shared : Bool) (n : StationNum) :
    validHolder shared n = false ↔ shared = false ∧ (n = 0 ∨ n = 63) := by
  simp [validHolder, stationInRange, or_iff_not_imp_left]

/-- The range test of ISSUE's fields, written out (R19, check 1). -/
theorem issueBadField_iff (f : IssueFields) :
    issueBadField f = true ↔
      (f.shared = false ∧ (f.station = 0 ∨ f.station = 63)) ∨ f.length.toNat = 0 ∨ 65536 < f.length.toNat ∨
        (f.read = false ∧ f.write = false) ∨ (f.lifetimePresent = true ∧ f.lifetime = 0) ∨
        (f.credits ≠ 0 ∧ f.renewAmount = 0) := by
  have toNat_eq_zero : ∀ {n : Nat} (x : BitVec n), x.toNat = 0 ↔ x = 0 := fun x => by rw [BitVec.toNat_eq]; simp
  simp only [issueBadField, Bool.or_eq_true, Bool.and_eq_true, Bool.not_eq_true', decide_eq_true_eq, beq_iff_eq,
    validHolder_eq_false_iff, Nat.pos_iff_ne_zero, ne_eq, toNat_eq_zero, or_assoc]
  rfl

/-- With the tests for NO_STATION and QUOTA false, the search for the holder's record gives no refusal (R19, checks 3
and 4). -/
theorem issueHolderRefusal_none {f : IssueFields} {s : State}
    (hn : (!f.shared && (s.stationRecord f.station).elim true (fun x => x.barred)) = false)
    (hq : (!f.shared && (s.stationRecord f.station).elim true (fun x => decide (x.quota ≤ x.held))) = false) :
    issueHolderRefusal s (issuedTerms f).holder = none := by
  cases hs : f.shared
  case true => simp [issuedTerms, hs, issueHolderRefusal]
  case false =>
    cases hr : s.stationRecord f.station with
    | none => simp [hs, hr] at hn
    | some r =>
      have hb : r.barred = false := by simpa [hs, hr] using hn
      have hlt : ¬ r.quota ≤ r.held := by simpa [hs, hr] using hq
      rw [State.stationRecord] at hr
      simp [issuedTerms, hs, issueHolderRefusal, hr, hb, hlt]

/-- ISSUE passing every check allocates the head of the free list (R19, R20). -/
theorem executeIssue_passes {f : IssueFields} {s : State} {g : GrantNum} {rest : List GrantNum}
    (h : firstFailure (s.issueChecks f) = none) (hl : s.freeList = g :: rest) :
    executeIssue f s =
      done (refWord g (s.grant g).gen) (number 0 32 rest.length) 0 (allocate g rest (issuedTerms f) s) := by
  rw [firstFailure_eq_none_iff] at h
  simp only [State.issueChecks, List.forall_mem_cons] at h
  obtain ⟨hfield, hwindow, hstation, hquota, hconflict, -, -⟩ := h
  rw [decide_eq_false_iff_not, ← issueBadField_iff, Bool.not_eq_true] at hfield
  have hflags : ¬ (f.read = false ∧ f.write = false) := by
    rintro ⟨hr, hw⟩
    simp [issueBadField, hr, hw] at hfield
  obtain ⟨rights, hrights, hterms⟩ := ofFlags_issueTerms hflags
  have htop : ¬ s.memTop < (issuedTerms f).windowEnd := of_decide_eq_false hwindow
  have hnone : s.firstConflict none (issuedTerms f) = none := by
    rw [State.firstConflict_eq_head?]
    simpa using hconflict
  simp [executeIssue, hrights, hterms, hfield, htop, issueHolderRefusal_none hstation hquota, hnone, hl]

/-! ### Allocation (R20) -/

/-- What an allocation sets; beside that it acts on the station table only. -/
theorem allocate_only (g : GrantNum) (rest : List GrantNum) (t : Terms) (s : State) :
    ∃ slots, allocate g rest t s =
      { s.setGrant g { gen := (s.grant g).gen, inFlight := 0, body := .live t } with
        freeList := rest, index := s.insertIndex t.base g s.index, slots := slots } := by
  obtain ⟨slots, h⟩ := changeHeld_only (fun n => n + 1) t.holder
    { s.setGrant g { gen := (s.grant g).gen, inFlight := 0, body := .live t } with
      freeList := rest, index := s.insertIndex t.base g s.index }
  exact ⟨slots, h⟩

@[simp] theorem allocate_freeList (g : GrantNum) (rest : List GrantNum) (t : Terms) (s : State) :
    (allocate g rest t s).freeList = rest := by
  obtain ⟨slots, h⟩ := allocate_only g rest t s
  rw [h]

@[simp] theorem allocate_cq (g : GrantNum) (rest : List GrantNum) (t : Terms) (s : State) :
    (allocate g rest t s).cq = s.cq := by
  obtain ⟨slots, h⟩ := allocate_only g rest t s
  rw [h, State.setGrant]

/-- An allocation makes its entry LIVE under the generation it has, and leaves every other entry as it was. -/
theorem allocate_grant (g h : GrantNum) (rest : List GrantNum) (t : Terms) (s : State) :
    (allocate g rest t s).grant h =
      if g = h then { gen := (s.grant g).gen, inFlight := 0, body := .live t } else s.grant h := by
  obtain ⟨slots, ha⟩ := allocate_only g rest t s
  rw [ha, ← State.grant_setGrant]
  rfl

/-- An allocation leaves every generation as it was. -/
@[simp] theorem allocate_gen (g h : GrantNum) (rest : List GrantNum) (t : Terms) (s : State) :
    ((allocate g rest t s).grant h).gen = (s.grant h).gen := by
  rw [allocate_grant]
  split
  · next e => rw [e]
  · rfl

/-- An ISSUE taken that passes every check: the free-list head's reference is reported, and the entry allocated (R20,
R143). -/
theorem exec_issue_passes {tag : BitVec 16} {f : IssueFields} {s : State} {g : GrantNum} {rest : List GrantNum}
    (hs : s.CanTake) (h : firstFailure (s.issueChecks f) = none) (hl : s.freeList = g :: rest) :
    exec (.issue tag f) s = .next
      (placeRecord (.cmdDone 1 tag .ok (refWord g (s.grant g).gen) (number 0 32 rest.length) 0)
        (allocate g rest (issuedTerms f) s)) := by
  have he : execute (.issue f) s =
      done (refWord g (s.grant g).gen) (number 0 32 rest.length) 0 (allocate g rest (issuedTerms f) s) :=
    executeIssue_passes h hl
  have hproper : ProperCommand (.issue f) := trivial
  rw [exec_issue, command_taken_quiet hs hproper (by rw [he]; rfl), he]
  rfl

/-! ### The free list after power-on reset (R11) -/

/-- Power-on reset leaves every entry as the reset state has it (R1). -/
theorem powerOn_grant (low out : Bool) (straps : BitVec 6) (s : State) (g : GrantNum) :
    (powerOn low out straps s).grant g = Grant.initial := by
  simp [powerOn, State.grant, State.reset]

/-- Power-on reset leaves all entries on the free list, ascending (R11). -/
theorem powerOn_freeList (low out : Bool) (straps : BitVec 6) (s : State) :
    (powerOn low out straps s).freeList = List.finRange 512 := by
  simp only [powerOn, State.reset]

/-- The numbers from `k` on, ascending: `k` and then those from `k + 1` on. -/
theorem drop_finRange {n : Nat} (k : Fin n) :
    (List.finRange n).drop k.val = k :: (List.finRange n).drop (k.val + 1) := by
  rw [List.drop_eq_getElem_cons (by simp)]
  simp

/-- Settles O4: an ISSUE that passes its checks takes the head of the list, and from the list that power-on reset leaves
the heads come off in ascending order, each under generation 0. -/
theorem firstIssuesAllocateInOrder : Obligations.FirstIssuesAllocateInOrder := by
  constructor
  · intro low out straps s
    refine ⟨_, exec_powerOnReset low out straps s, powerOn_freeList low out straps s, ?_, fun g => ?_⟩
    · rw [powerOn_freeList, List.head?_eq_getElem?]
      simp
    · rw [powerOn_grant]; rfl
  · intro tag f s k htake hchecks hlist hgen
    rw [drop_finRange] at hlist
    refine ⟨_, number 0 32 ((List.finRange 512).drop (k.val + 1)).length,
      exec_issue_passes htake hchecks hlist, ?_, ?_, fun g => ?_⟩
    · rw [placeRecord_cq, allocate_cq, hgen]
    · rw [placeRecord_freeList, allocate_freeList]
    · rw [State.grant_placeRecord_other, allocate_gen, hgen]

/-! ### A CONTROL write before its engine reset (R183) -/

/-- The link's leaving UP touches no grant record. -/
@[simp] theorem linkLeavesUp_grants (next : LinkState) (s : State) : (linkLeavesUp next s).grants = s.grants := by
  obtain ⟨_, _, _, _, _, _, h⟩ := linkLeavesUp_only next s
  rw [h]

/-- The link's leaving UP does not touch the free list. -/
@[simp] theorem linkLeavesUp_freeList (next : LinkState) (s : State) : (linkLeavesUp next s).freeList = s.freeList := by
  obtain ⟨_, _, _, _, _, _, h⟩ := linkLeavesUp_only next s
  rw [h]

/-- The LINK_ENABLE field of a CONTROL write touches neither the grant records nor the free list (R125). -/
theorem linkEnableWrite_grantTable (b : Bool) (s : State) :
    (linkEnableWrite b s).grants = s.grants ∧ (linkEnableWrite b s).freeList = s.freeList := by
  cases b with
  | true =>
    simp only [linkEnableWrite, if_true]
    split
    · split <;> exact ⟨rfl, rfl⟩
    · exact ⟨rfl, rfl⟩
  | false =>
    cases hl : s.link <;> simp [linkEnableWrite, hl]

/-- A word's bit, once fixed, reads as fixed. -/
theorem getLsbD_withBit_self (v : Word) {i : Nat} (hi : i < 32) (b : Bool) : (withBit v i b).getLsbD i = b := by
  simp only [withBit, BitVec.getLsbD_or, BitVec.getLsbD_and, BitVec.getLsbD_not, getLsbD_flag]
  simp [hi]

/-- ENGINE_RESET resets the state that the other fields of its word leave, whose grant records and free list are those
from before (R183). -/
theorem exec_engineReset_running (v : Word) {s : State} (h : s.inReset = false) :
    ∃ u, exec (.engineReset v) s = .next (engineReset u) ∧ u.grants = s.grants ∧ u.freeList = s.freeList := by
  refine ⟨_, ?_, linkEnableWrite_grantTable ((withBit v 1 true).getLsbD 0)
    { s with enables := Enables.ofWord (withBit v 1 true) }⟩
  rw [exec_engineReset, event_running h, controlWrite, getLsbD_withBit_self v (by decide) true, if_pos rfl]

/-! ### The free list that an engine reset rebuilds (R12) -/

/-- An engine reset puts every entry through its own reset (R24). -/
theorem engineReset_grant (s : State) (g : GrantNum) : (engineReset s).grant g = (s.grant g).engineReset := by
  simp [engineReset, State.grant]

/-- An engine reset leaves every entry FREE. -/
theorem Grant.engineReset_body (x : Grant) : x.engineReset.body = .free := by
  unfold Grant.engineReset
  split
  · assumption
  · rfl
  · rfl

/-- A FREE entry keeps its generation, and one that the reset frees takes the next (R12, R24). -/
theorem Grant.engineReset_gen (x : Grant) : x.engineReset.gen = if x.body.isFree then x.gen else x.gen + 1 := by
  cases hb : x.body <;> simp [Grant.engineReset, hb, Body.isFree]

/-- The rebuilt list depends on the grant records and the free list only. -/
theorem rebuiltFreeList_congr {s t : State} (hg : s.grants = t.grants) (hf : s.freeList = t.freeList) :
    rebuiltFreeList s = rebuiltFreeList t := by
  simp only [rebuiltFreeList, State.grant, hg, hf]

/-- The free list holds exactly the FREE entries (R10). -/
theorem State.GrantListsPartition.mem_freeList {s : State} (h : s.GrantListsPartition) (g : GrantNum) :
    g ∈ s.freeList ↔ (s.grant g).body.isFree = true := by
  obtain ⟨-, -, hlists⟩ := h
  exact (hlists g).1

/-- The rebuilt list holds each of the 512 entries once: its two parts are the FREE entries and the others (R12). -/
theorem rebuiltFreeList_perm {s : State} (h : s.GrantListsPartition) :
    (rebuiltFreeList s).Perm (List.finRange 512) := by
  have hnodup : (rebuiltFreeList s).Nodup := by
    refine h.1.append ((List.nodup_finRange 512).filter _) fun g hfree hfreed => ?_
    simp [(h.mem_freeList g).1 hfree] at hfreed
  refine (List.perm_ext_iff_of_nodup hnodup (List.nodup_finRange 512)).2 fun g => ?_
  simp [rebuiltFreeList, h.mem_freeList]

/-- Settles O6: the other fields of the same CONTROL write leave the grant table alone, so the reset rebuilds the list
from the records and the list that stood before it. -/
theorem engineResetRebuildsFreeList : Obligations.EngineResetRebuildsFreeList := by
  intro v s hreset hpart
  obtain ⟨u, hexec, hgrants, hlist⟩ := exec_engineReset_running v hreset
  have hgrant : ∀ g, (engineReset u).grant g = (s.grant g).engineReset := fun g => by
    rw [engineReset_grant]
    simp only [State.grant, hgrants]
  have hrebuilt : (engineReset u).freeList = rebuiltFreeList s := rebuiltFreeList_congr hgrants hlist
  have hperm := rebuiltFreeList_perm hpart
  refine ⟨_, hexec, hrebuilt, ?_, ?_, fun g hg => ?_, fun g hg => ?_, fun g => ?_⟩
  · rw [hrebuilt, hperm.length_eq, List.length_finRange]
  · rw [hrebuilt, hperm.nodup_iff]
    exact List.nodup_finRange 512
  · rw [hgrant, Grant.engineReset_gen, if_pos ((hpart.mem_freeList g).1 hg)]
  · rw [hgrant, Grant.engineReset_gen, if_neg (mt (hpart.mem_freeList g).2 hg)]
  · rw [hgrant, Grant.engineReset_body]

end Sys2Proof.Machine
end

section
/-! PROOFS. The transmitter's completion of a context reply (R103): the end of a drain (R176) and a context's return to
IDLE as the statements describe them. -/

namespace Sys2Proof.Machine

/-! ### Arms of `exec` -/

theorem exec_transmitStart (s : State) : exec .transmitStart s = event txTake s := rfl

theorem exec_contextReplySent (s : State) : exec .contextReplySent s = event contextSent s := rfl

/-! ### The end of a drain, as the statements put it (R176) -/

/-- An event may be placed at once exactly with the backlog empty and fewer than 64 completions (R141, R167). -/
theorem State.slotFree_iff (s : State) : s.slotFree = true ↔ s.backlog = [] ∧ s.cq.length < 64 := by
  simp only [State.slotFree, Bool.and_eq_true, List.isEmpty_iff, decide_eq_true_eq]
  rfl

/-- The model's scan of the context table asks each context. -/
theorem State.allIdle_iff (s : State) : s.allIdle = true ↔ ∀ c : CtxNum, (s.ctx c).state = .idle := by
  simp [State.allIdle, State.ctx, Vector.all_eq_true, Fin.forall_iff]

/-- HOLD_REACHED handed over in HELD is the described end of a drain. -/
theorem handHoldReached_held (s : State) : handHoldReached { s with hold := .held } = s.withDrainEnded := by
  have hfree := ({ s with hold := .held } : State).slotFree_iff
  unfold handHoldReached State.withDrainEnded
  by_cases h : s.backlog = [] ∧ s.cq.length < 64
  · rw [if_pos (hfree.2 h), if_pos h, placeRecord]
  · rw [if_neg (mt hfree.1 h), if_neg h, joinBacklog]

/-- Hold Control's test is the described one. -/
theorem drainTest_eq_withDrainTest (s : State) : drainTest s = s.withDrainTest := by
  simp only [drainTest, State.withDrainTest, State.allIdle_iff, handHoldReached_held]

/-- The end of a drain leaves the reset levels. -/
@[simp] theorem State.inReset_withDrainTest (s : State) : s.withDrainTest.inReset = s.inReset := by
  obtain ⟨_, _, _, _, h⟩ := drainTest_only s
  rw [← drainTest_eq_withDrainTest, h]
  rfl

/-! ### A context's return to IDLE (R103) -/

/-- Setting one entry of a table is the table made anew with that entry changed. -/
theorem vector_set_eq_ofFn {α : Type} {n : Nat} (v : Vector α n) (i : Fin n) (x : α) :
    v.set i.val x i.isLt = Vector.ofFn (fun j => if j = i then x else v[j.val]) := by
  ext j hj
  simp only [Vector.getElem_ofFn, Vector.getElem_set, Fin.ext_iff, eq_comm]

/-- A context that enters IDLE with the mark that names it cleared is as described: only its own slot is tested. -/
theorem clearPending_enter_idle (c : CtxNum) (s : State) :
    clearPending c (s.ctx c).slot (s.enter c .idle) = s.withContextIdle c := by
  unfold clearPending State.modifyRecord State.setSlot State.withContextIdle
  rw [vector_set_eq_ofFn]
  congr 1
  refine congrArg Vector.ofFn (funext fun sl => ?_)
  by_cases h : sl = (s.ctx c).slot
  · rw [if_pos h, if_pos h, h]
    rfl
  · rw [if_neg h, if_neg h]
    rfl

/-- A context's return to IDLE leaves the reset levels. -/
@[simp] theorem State.inReset_withContextIdle (s : State) (c : CtxNum) :
    (s.withContextIdle c).inReset = s.inReset := rfl

/-- The completed transmission of a context reply, as described (R103, R135, R176, R134). -/
theorem contextSent_reply {s : State} {c : CtxNum} {f : Reply} {rest : List QueuedReply} (ht : s.tx = .reply)
    (hq : s.replyQ = { origin := .context c, frame := f } :: rest) :
    contextSent s =
      txTake (({ s with tx := .free, replyQ := rest } : State).withContextIdle c).withDrainTest := by
  rw [← drainTest_eq_withDrainTest, ← clearPending_enter_idle]
  simp only [contextSent, ht, hq]
  rfl

/-- Settles O47: the completion is the described return to IDLE and drain test, and then the transmitter's choice, which
a part out of reset makes. -/
theorem contextReplySentFreesContext : Obligations.ContextReplySentFreesContext := by
  intro s c f rest hreset htx hqueue
  have hrunning : (({ s with tx := .free, replyQ := rest } : State).withContextIdle c).withDrainTest.inReset = false := by
    rw [State.inReset_withDrainTest, State.inReset_withContextIdle]
    exact hreset
  refine ⟨_, (exec_contextReplySent s).trans (event_running hreset), ?_⟩
  rw [exec_transmitStart, event_running hrunning, contextSent_reply htx hqueue]

end Sys2Proof.Machine
end


section
/-! PROOFS. The transmitter's completion of a head's NOTICE frame (R113), and what the link's loss of sync leaves of the
grant table. -/

namespace Sys2Proof.Machine

/-! ### Arms of `exec` -/

theorem exec_noticeSent (s : State) : exec .noticeSent s = event headNoticeSent s := rfl

theorem exec_syncLost (s : State) : exec .syncLost s = event syncLost s := rfl

/-! ### The head's notice state -/

/-- The model's replacement of a grant record is the described one. -/
theorem State.setGrant_eq_withGrant (s : State) (g : GrantNum) (x : Grant) : s.setGrant g x = s.withGrant g x := by
  rw [State.setGrant, State.withGrant, vector_set_eq_ofFn]
  rfl

/-- A head in CLOSING gives its notice state. -/
theorem State.headNotice_closing {s : State} {sl : SlotNum} {g : GrantNum} {rest : List GrantNum} {t : Terms}
    {c : Closing} (hq : (s.slot sl).queue = g :: rest) (hb : (s.grant g).body = .closing t c) :
    s.headNotice sl = some c.notice := by
  simp only [State.headNotice, hq, hb]

/-- The notice state of a CLOSING grant is replaced in its record alone. -/
theorem setNotice_closing {s : State} {g : GrantNum} {t : Terms} {c : Closing} (n : Notice)
    (hb : (s.grant g).body = .closing t c) :
    setNotice g n s = s.setGrant g { s.grant g with body := .closing t { c with notice := n } } := by
  simp only [setNotice, hb, State.setBody]

/-- A completed send leaves one try of a QUEUED head, and one more of a head in AWAIT_ACK, with no ticks counted
(R113, steps 1 and 2). -/
theorem Notice.afterSend_eq {x : Notice} {n : Nat}
    (h : (x = .queued ∧ n = 1) ∨ ∃ tries ticks, x = .awaitAck tries ticks ∧ n = tries + 1) :
    x.afterSend = .awaitAck n 0 := by
  obtain ⟨rfl, rfl⟩ | ⟨tries, ticks, rfl, rfl⟩ := h
  · rfl
  · rfl

/-- The completed transmission of a head's frame with a notice state: the send is counted, the head frame state becomes
NONE, and the free transmitter chooses (R113, R134). -/
theorem headNoticeSent_of_head {s : State} {sl : SlotNum} {f : NoticeFrame} {g : GrantNum} {rest : List GrantNum}
    {n : Notice} (htx : s.tx = .notice (some sl) f) (hq : (s.slot sl).queue = g :: rest)
    (hn : s.headNotice sl = some n) :
    headNoticeSent s =
      txTake
        { (setNotice g n.afterSend s).setSlot sl { (setNotice g n.afterSend s).slot sl with frame := .none } with
          tx := .free } := by
  simp only [headNoticeSent, htx, hq, hn]

/-- For a CLOSING head that is the described change: its record counts the send, and its slot alone changes beside. -/
theorem headNoticeSent_closing {s : State} {sl : SlotNum} {f : NoticeFrame} {g : GrantNum} {rest : List GrantNum}
    {t : Terms} {c : Closing} (htx : s.tx = .notice (some sl) f) (hq : (s.slot sl).queue = g :: rest)
    (hb : (s.grant g).body = .closing t c) :
    headNoticeSent s =
      txTake
        { s.setGrant g { s.grant g with body := .closing t { c with notice := c.notice.afterSend } } with
          slots := s.slots.set sl.val { s.slot sl with frame := .none } sl.isLt
          tx := .free } := by
  rw [headNoticeSent_of_head htx hq (State.headNotice_closing hq hb), setNotice_closing _ hb]
  rfl

/-! ### The link's loss of sync -/

/-- The loss of sync leaves every grant record as it was, whatever the transmitter was sending (R113, R127). -/
theorem syncLost_grants (s : State) : (syncLost s).grants = s.grants := by
  cases hl : s.link with
  | down => simp only [syncLost, hl]
  | training => simp only [syncLost, hl]
  | up => simp only [syncLost, hl, linkLeavesUp_grants]

/-- Settles O48: the transmitter's choice of a notice frame, the completion of a head's frame, and the loss of sync,
each for a part out of reset. -/
theorem noticeSentAwaitsAck : Obligations.NoticeSentAwaitsAck := by
  intro s hreset
  refine ⟨fun sl rest f hlink htx hreply hoffers hframe => ?_, fun sl f g rest t c n htx hqueue hbody hsend => ?_,
    fun _ => ?_⟩
  · refine ⟨_, (exec_transmitStart s).trans (event_running hreset), ?_⟩
    rw [txTake_notice hlink htx hreply hoffers hframe]
    exact ⟨rfl, congrArg Slot.frame (State.slot_setSlot_self s sl { s.slot sl with frame := .sending })⟩
  · refine ⟨_, (exec_noticeSent s).trans (event_running hreset), ?_⟩
    rw [headNoticeSent_closing htx hqueue hbody, Notice.afterSend_eq hsend, ← State.setGrant_eq_withGrant]
    exact (exec_transmitStart _).trans (event_running hreset)
  · exact ⟨_, (exec_syncLost s).trans (event_running hreset), syncLost_grants s⟩

end Sys2Proof.Machine
end


section
/-! PROOFS. LINK_CHANGE (R129): the link state and LINK_CHANGE read together, what each operation of the part leaves of
them, and the commands that take the link between UP and not UP. -/

namespace Sys2Proof.Machine

/-! ### The link state and LINK_CHANGE, read together -/

/-- What R129 speaks of: the link state and the LINK_CHANGE alert. Every operation but the link's entering and leaving
UP, the link's enabling and disabling, a write of ALERTS and the resets leaves the pair as it is. -/
def State.linkAlert (s : State) : LinkState × Bool := (s.link, s.alerts.linkChange)

/-- What every act keeps, the acts in turn over a list keep. -/
theorem foldl_linkAlert {α : Type} {f : State → α → State} (hf : ∀ s a, (f s a).linkAlert = s.linkAlert) (l : List α)
    (s : State) : (l.foldl f s).linkAlert = s.linkAlert := by
  induction l generalizing s with
  | nil => rfl
  | cons a l ih => exact (ih (f s a)).trans (hf s a)

/-- What the act on one slot keeps, the act on every slot keeps. -/
theorem forSlots_linkAlert {f : SlotNum → State → State} (hf : ∀ sl s, (f sl s).linkAlert = s.linkAlert) (s : State) :
    (forSlots f s).linkAlert = s.linkAlert :=
  forSlots_induction (P := fun t => t.linkAlert = s.linkAlert) (fun sl t ht => (hf sl t).trans ht) rfl

theorem State.modifyRecord_linkAlert (s : State) (sl : SlotNum) (f : Station → Station) :
    (s.modifyRecord sl f).linkAlert = s.linkAlert := rfl

/-! ### Hand-over to the completion queue: of the alerts, BACKLOG alone is latched (R167) -/

theorem retire_linkAlert (g : GrantNum) (s : State) : (retire g s).linkAlert = s.linkAlert :=
  let ⟨_, _, _, _, _, h⟩ := retire_only g s
  (congrArg State.linkAlert h).trans rfl

theorem setRetireWait_linkAlert (g : GrantNum) (s : State) : (setRetireWait g s).linkAlert = s.linkAlert :=
  let ⟨_, h⟩ := setRetireWait_only g s
  (congrArg State.linkAlert h).trans rfl

theorem joinBacklog_linkAlert (e : Event) (s : State) : (joinBacklog e s).linkAlert = s.linkAlert := rfl

theorem testReady_linkAlert (g : GrantNum) (s : State) : (testReady g s).linkAlert = s.linkAlert := by
  unfold testReady
  split
  · split
    · exact retire_linkAlert g s
    · exact (joinBacklog_linkAlert _ _).trans (setRetireWait_linkAlert g s)
  · rfl

theorem testReadyAll_linkAlert (gs : List GrantNum) (s : State) : (testReadyAll gs s).linkAlert = s.linkAlert :=
  foldl_linkAlert (fun s g => testReady_linkAlert g s) gs s

theorem handAdmitted_linkAlert (sl : SlotNum) (n : StationNum) (s : State) :
    (handAdmitted sl n s).linkAlert = s.linkAlert := by
  unfold handAdmitted
  split <;> rfl

theorem handRestarted_linkAlert (sl : SlotNum) (r : Station) (epoch : BitVec 16) (swept : Nat) (s : State) :
    (handRestarted sl r epoch swept s).linkAlert = s.linkAlert := by
  unfold handRestarted
  split
  · rfl
  · split <;> rfl

theorem handHoldReached_linkAlert (s : State) : (handHoldReached s).linkAlert = s.linkAlert := by
  unfold handHoldReached
  split <;> rfl

theorem placeBacklogHead_linkAlert (s : State) : (placeBacklogHead s).linkAlert = s.linkAlert :=
  let ⟨_, _, _, _, _, _, h⟩ := placeBacklogHead_only s
  (congrArg State.linkAlert h).trans rfl

theorem drainTest_linkAlert (s : State) : (drainTest s).linkAlert = s.linkAlert := by
  unfold drainTest
  split
  · exact handHoldReached_linkAlert { s with hold := .held }
  · rfl

/-! ### The transmitter and the notices -/

theorem txTake_linkAlert (s : State) : (txTake s).linkAlert = s.linkAlert :=
  let ⟨_, _, _, h⟩ := txTake_only s
  (congrArg State.linkAlert h).trans rfl

theorem closeGrant_linkAlert (cause : Cause) (g : GrantNum) (s : State) :
    (closeGrant cause g s).linkAlert = s.linkAlert :=
  let ⟨_, _, h⟩ := closeGrant_only cause g s
  (congrArg State.linkAlert h).trans rfl

theorem closeAll_linkAlert (cause : Cause) (gs : List GrantNum) (s : State) :
    (closeAll cause gs s).linkAlert = s.linkAlert :=
  let ⟨_, _, h⟩ := closeAll_only cause gs s
  (congrArg State.linkAlert h).trans rfl

theorem setNotice_linkAlert (g : GrantNum) (n : Notice) (s : State) : (setNotice g n s).linkAlert = s.linkAlert :=
  let ⟨_, h⟩ := setNotice_only g n s
  (congrArg State.linkAlert h).trans rfl

theorem offerNewHead_linkAlert (sl : SlotNum) (s : State) : (offerNewHead sl s).linkAlert = s.linkAlert :=
  let ⟨_, _, h⟩ := offerNewHead_only sl s
  (congrArg State.linkAlert h).trans rfl

theorem resendHead_linkAlert (sl : SlotNum) (s : State) : (resendHead sl s).linkAlert = s.linkAlert :=
  let ⟨_, _, h⟩ := resendHead_only sl s
  (congrArg State.linkAlert h).trans rfl

theorem reofferHead_linkAlert (sl : SlotNum) (s : State) : (reofferHead sl s).linkAlert = s.linkAlert :=
  let ⟨_, _, h⟩ := reofferHead_only sl s
  (congrArg State.linkAlert h).trans rfl

theorem countInterval_linkAlert (sl : SlotNum) (s : State) : (countInterval sl s).linkAlert = s.linkAlert :=
  let ⟨_, h⟩ := countInterval_only sl s
  (congrArg State.linkAlert h).trans rfl

theorem leaveQueue_linkAlert (sl : SlotNum) (outcome : Notice) (s : State) :
    (leaveQueue sl outcome s).linkAlert = s.linkAlert :=
  let ⟨_, _, _, _, h⟩ := leaveQueue_only sl outcome s
  (congrArg State.linkAlert h).trans rfl

theorem endUnacked_linkAlert (sl : SlotNum) (s : State) : (endUnacked sl s).linkAlert = s.linkAlert := by
  unfold endUnacked
  split
  · split
    · rfl
    · exact (testReady_linkAlert _ _).trans (leaveQueue_linkAlert sl .unacked s)
  · rfl

theorem abandonQueue_linkAlert (sl : SlotNum) (s : State) : (abandonQueue sl s).linkAlert = s.linkAlert :=
  let ⟨_, _, _, h⟩ := abandonQueue_only sl s
  (congrArg State.linkAlert h).trans rfl

/-! ### The node bus: of the alerts, BUS_FAULT alone is latched (R97) -/

theorem givePort_linkAlert (s : State) : (givePort s).linkAlert = s.linkAlert :=
  let ⟨_, _, _, h⟩ := givePort_only s
  (congrArg State.linkAlert h).trans rfl

theorem acceptWrite_linkAlert (op : LineOp) (res : LineResult) (s : State) :
    (acceptWrite op res s).linkAlert = s.linkAlert :=
  let ⟨_, h⟩ := acceptWrite_only op res s
  (congrArg State.linkAlert h).trans rfl

theorem lowerInFlight_linkAlert (g : GrantNum) (s : State) : (lowerInFlight g s).linkAlert = s.linkAlert :=
  testReady_linkAlert g _

theorem setCache_linkAlert (x : Ctx) (s : State) : (setCache x s).linkAlert = s.linkAlert := rfl

theorem endPhase_linkAlert (c : CtxNum) (s : State) : (endPhase c s).linkAlert = s.linkAlert := by
  have hlowered := lowerInFlight_linkAlert (s.ctx c).grant s
  have hcached := (setCache_linkAlert (s.ctx c) _).trans hlowered
  unfold endPhase
  simp only []
  split
  · exact (drainTest_linkAlert _).trans hlowered
  · split
    · exact (drainTest_linkAlert _).trans hcached
    · split
      · exact hcached
      · exact (drainTest_linkAlert _).trans hcached

theorem takeResult_linkAlert (c : CtxNum) (res : LineResult) (s : State) :
    (takeResult c res s).linkAlert = s.linkAlert := by
  unfold takeResult
  simp only []
  split
  · cases res with
    | done data =>
      simp only []
      split
      · exact endPhase_linkAlert c _
      · rfl
    | fault => exact endPhase_linkAlert c _
  · rfl

theorem lineEnd_linkAlert (res : LineResult) (s : State) : (lineEnd res s).linkAlert = s.linkAlert := by
  unfold lineEnd
  split
  · rfl
  · next owner op _ =>
    have haccepted : (acceptWrite op res { s with port := .free }).linkAlert = s.linkAlert :=
      acceptWrite_linkAlert op res _
    refine (txTake_linkAlert _).trans ((givePort_linkAlert _).trans ?_)
    cases owner with
    | some c => exact (takeResult_linkAlert c res _).trans haccepted
    | none => exact haccepted

theorem detachedEnd_linkAlert (res : LineResult) (s : State) : (detachedEnd res s).linkAlert = s.linkAlert := by
  unfold detachedEnd
  split
  · exact lineEnd_linkAlert res s
  · rfl

/-! ### Arrivals -/

theorem immediate_linkAlert (r : Reply) (s : State) : (immediate r s).linkAlert = s.linkAlert :=
  let ⟨_, _, _, _, _, h⟩ := immediate_only r s
  (congrArg State.linkAlert h).trans rfl

theorem answer_linkAlert (r : Request) (status : ReplyStatus) (value : Word) (replayed : Bool) (s : State) :
    (answer r status value replayed s).linkAlert = s.linkAlert :=
  immediate_linkAlert _ s

theorem definitive_linkAlert (sl : SlotNum) (r : Request) (status : ReplyStatus) (value : Word) (replayed : Bool)
    (s : State) : (definitive sl r status value replayed s).linkAlert = s.linkAlert :=
  answer_linkAlert r status value replayed _

theorem bind_linkAlert (c : CtxNum) (sl : SlotNum) (r : Request) (g : GrantNum) (t : Terms) (replayed : Bool)
    (s : State) : (bind c sl r g t replayed s).linkAlert = s.linkAlert :=
  givePort_linkAlert _

theorem transferAction_linkAlert (sl : SlotNum) (r : Request) (replayed : Bool) (g : GrantNum) (t : Terms)
    (s : State) : (transferAction sl r replayed g t s).linkAlert = s.linkAlert := by
  unfold transferAction
  split
  · exact definitive_linkAlert ..
  · split
    · exact answer_linkAlert ..
    · exact bind_linkAlert ..

theorem renewAction_linkAlert (sl : SlotNum) (r : Request) (replayed : Bool) (g : GrantNum) (t : Terms) (s : State) :
    (renewAction sl r replayed g t s).linkAlert = s.linkAlert := by
  unfold renewAction
  split
  · exact definitive_linkAlert ..
  · split
    · exact definitive_linkAlert ..
    · exact definitive_linkAlert ..

theorem returnAction_linkAlert (sl : SlotNum) (r : Request) (replayed : Bool) (g : GrantNum) (s : State) :
    (returnAction sl r replayed g s).linkAlert = s.linkAlert :=
  (definitive_linkAlert ..).trans ((testReady_linkAlert g _).trans (closeGrant_linkAlert .returned g s))

theorem kindAction_linkAlert (sl : SlotNum) (r : Request) (replayed : Bool) (g : GrantNum) (t : Terms) (s : State) :
    (kindAction sl r replayed g t s).linkAlert = s.linkAlert := by
  unfold kindAction
  cases r.kind with
  | read | write => exact transferAction_linkAlert ..
  | renew => exact renewAction_linkAlert ..
  | returnGrant => exact returnAction_linkAlert ..
  | probe => exact definitive_linkAlert ..

theorem resolveRequest_linkAlert (sl : SlotNum) (r : Request) (replayed : Bool) (s : State) :
    (resolveRequest sl r replayed s).linkAlert = s.linkAlert := by
  unfold resolveRequest
  cases s.resolve r.grant r.gen with
  | badRef | stale | closed => exact definitive_linkAlert ..
  | live g t =>
    simp only []
    split
    · exact kindAction_linkAlert ..
    · exact definitive_linkAlert ..

theorem sequenceRequest_linkAlert (sl : SlotNum) (x : Station) (last : Byte) (r : Request) (s : State) :
    (sequenceRequest sl x last r s).linkAlert = s.linkAlert := by
  unfold sequenceRequest
  cases sequenceRule x last r.kind r.seq with
  | discard => rfl
  | outOfOrder | busy | replay => exact answer_linkAlert ..
  | go replayed => exact resolveRequest_linkAlert ..

theorem takeRequest_linkAlert (r : Request) (s : State) : (takeRequest r s).linkAlert = s.linkAlert := by
  unfold takeRequest
  split
  · exact answer_linkAlert ..
  · split
    · exact answer_linkAlert ..
    · split
      · exact answer_linkAlert ..
      · split
        · exact answer_linkAlert ..
        · split
          · exact answer_linkAlert ..
          · exact sequenceRequest_linkAlert ..

theorem answerHello_linkAlert (src : StationNum) (seq : Byte) (status : ReplyStatus) (value : Word) (s : State) :
    (answerHello src seq status value s).linkAlert = s.linkAlert :=
  immediate_linkAlert _ s

theorem orphanPending_linkAlert (p : Option CtxNum) (s : State) : (orphanPending p s).linkAlert = s.linkAlert := by
  unfold orphanPending
  split
  · rfl
  · split <;> rfl

theorem resynchronise_linkAlert (sl : SlotNum) (x : Station) (epoch : BitVec 16) (start : Byte) (s : State) :
    (resynchronise sl x epoch start s).linkAlert = s.linkAlert :=
  orphanPending_linkAlert x.pending s

theorem restartStation_linkAlert (sl : SlotNum) (x : Station) (epoch : BitVec 16) (s : State) :
    (restartStation sl x epoch s).linkAlert = s.linkAlert := by
  have hclosed := closeAll_linkAlert .restarted (s.liveOf (.station x.number)) s
  have habandoned := (foldl_linkAlert (fun s g => setNotice_linkAlert g .abandoned s)
    (s.openNotices x.number) _).trans ((abandonQueue_linkAlert sl _).trans hclosed)
  unfold restartStation
  simp only []
  exact (testReadyAll_linkAlert _ _).trans
    ((handRestarted_linkAlert ..).trans ((State.modifyRecord_linkAlert ..).trans habandoned))

theorem handleHello_linkAlert (sl : SlotNum) (x : Station) (src : StationNum) (seq : Byte) (epoch : BitVec 16)
    (start : Byte) (s : State) : (handleHello sl x src seq epoch start s).linkAlert = s.linkAlert := by
  have hsynced := resynchronise_linkAlert sl x epoch start s
  unfold handleHello
  simp only []
  split
  · exact (answerHello_linkAlert ..).trans ((restartStation_linkAlert ..).trans hsynced)
  · exact (answerHello_linkAlert ..).trans hsynced

theorem takeHello_linkAlert (src : StationNum) (seq : Byte) (epoch : BitVec 16) (start : Byte) (s : State) :
    (takeHello src seq epoch start s).linkAlert = s.linkAlert := by
  unfold takeHello
  split
  · split
    · split
      · exact answerHello_linkAlert ..
      · exact (handleHello_linkAlert ..).trans (handAdmitted_linkAlert ..)
    · exact answerHello_linkAlert ..
  · split
    · exact answerHello_linkAlert ..
    · split
      · exact answerHello_linkAlert ..
      · split
        · exact answerHello_linkAlert ..
        · exact handleHello_linkAlert ..

theorem takeNoticeAck_linkAlert (src : StationNum) (seq : Byte) (grant : BitVec 16) (gen : Byte) (s : State) :
    (takeNoticeAck src seq grant gen s).linkAlert = s.linkAlert := by
  unfold takeNoticeAck
  split
  · exact immediate_linkAlert _ s
  · next sl _ =>
    split
    · rfl
    · have hended := (offerNewHead_linkAlert sl _).trans (leaveQueue_linkAlert sl .acked s)
      exact (txTake_linkAlert _).trans ((testReady_linkAlert _ _).trans hended)

theorem takeArrival_linkAlert (a : Arrival) (s : State) : (takeArrival a s).linkAlert = s.linkAlert := by
  cases a with
  | hello src seq epoch start => exact takeHello_linkAlert ..
  | request r => exact takeRequest_linkAlert r s
  | noticeAck src seq grant gen => exact takeNoticeAck_linkAlert ..
  | unknown src seq kind =>
    simp only [takeArrival, takeUnknown]
    split
    · rfl
    · exact immediate_linkAlert _ s

theorem arrive_linkAlert (a : Arrival) (s : State) : (arrive a s).linkAlert = s.linkAlert := by
  unfold arrive
  split
  · simp only []
    split
    · exact takeArrival_linkAlert a _
    · rfl
  · rfl

theorem receiveFrame_linkAlert (bs : List Byte) (s : State) : (receiveFrame bs s).linkAlert = s.linkAlert := by
  unfold receiveFrame
  split
  · simp only []
    split
    · exact takeArrival_linkAlert _ _
    · rfl
  · rfl

/-! ### Host commands: of the alerts, CMD_OVERRUN alone is latched (R139) -/

/-- What a command does with a LIVE entry decides: the refusals of R8 change nothing. -/
theorem onLive_linkAlert {s : State} {f : GrantNum → Terms → Executed}
    (hf : ∀ g t, (f g t).state.linkAlert = s.linkAlert) (grant : BitVec 16) (gen : BitVec 8) :
    (onLive s grant gen f).state.linkAlert = s.linkAlert := by
  unfold onLive
  cases s.resolve grant gen with
  | badRef | stale | closed => rfl
  | live g t => exact hf g t

theorem allocate_linkAlert (g : GrantNum) (rest : List GrantNum) (t : Terms) (s : State) :
    (allocate g rest t s).linkAlert = s.linkAlert :=
  let ⟨_, h⟩ := allocate_only g rest t s
  (congrArg State.linkAlert h).trans rfl

theorem executeIssue_linkAlert (f : IssueFields) (s : State) : (executeIssue f s).state.linkAlert = s.linkAlert := by
  unfold executeIssue
  split
  · rfl
  · simp only []
    split
    · rfl
    · split
      · rfl
      · split
        · rfl
        · split
          · rfl
          · split
            · rfl
            · exact allocate_linkAlert ..

theorem executeAmend_linkAlert (f : AmendFields) (s : State) : (executeAmend f s).state.linkAlert = s.linkAlert := by
  refine onLive_linkAlert (fun g t => ?_) f.grant f.gen
  simp only []
  split
  · rfl
  · split
    · rfl
    · split
      · rfl
      · split <;> rfl

theorem offerForHolder_linkAlert (h : Holder) (s : State) : (offerForHolder h s).linkAlert = s.linkAlert := by
  unfold offerForHolder
  split
  · rfl
  · split
    · exact (txTake_linkAlert _).trans (offerNewHead_linkAlert _ s)
    · rfl

theorem executeRevoke_linkAlert (grant : BitVec 16) (gen : BitVec 8) (s : State) :
    (executeRevoke grant gen s).state.linkAlert = s.linkAlert :=
  onLive_linkAlert (fun g t => (offerForHolder_linkAlert t.holder _).trans (closeGrant_linkAlert .revoked g s)) grant gen

theorem executeSweep_linkAlert (station : StationNum) (shared : Bool) (s : State) :
    (executeSweep station shared s).state.linkAlert = s.linkAlert := by
  have hclosed := closeAll_linkAlert .swept (s.liveOf (holderOf shared station)) s
  have hoffered := (offerForHolder_linkAlert (holderOf shared station) _).trans hclosed
  unfold executeSweep
  split
  · exact hoffered
  · rfl

theorem executeQueryGrant_linkAlert (grant : BitVec 16) (part : BitVec 2) (s : State) :
    (executeQueryGrant grant part s).state.linkAlert = s.linkAlert := by
  unfold executeQueryGrant
  split
  · simp only []
    split
    · rfl
    · split <;> rfl
  · rfl

theorem executeQueryLine_linkAlert (line : Word) (skip : BitVec 16) (s : State) :
    (executeQueryLine line skip s).state.linkAlert = s.linkAlert := by
  unfold executeQueryLine
  split
  · rfl
  · simp only []
    split <;> rfl

theorem admitOrBar_linkAlert (n : StationNum) (change : Station → Station) (created : Station) (s : State) :
    (admitOrBar n change created s).state.linkAlert = s.linkAlert := by
  unfold admitOrBar
  split
  · rfl
  · split <;> rfl

theorem executeAdmit_linkAlert (n : StationNum) (quota : BitVec 16) (s : State) :
    (executeAdmit n quota s).state.linkAlert = s.linkAlert := by
  unfold executeAdmit
  split
  · rfl
  · exact admitOrBar_linkAlert ..

theorem executeBar_linkAlert (n : StationNum) (s : State) : (executeBar n s).state.linkAlert = s.linkAlert := by
  unfold executeBar
  split
  · rfl
  · exact admitOrBar_linkAlert ..

theorem executeForget_linkAlert (n : StationNum) (s : State) : (executeForget n s).state.linkAlert = s.linkAlert := by
  unfold executeForget
  split
  · split
    · rfl
    · split
      · rfl
      · split <;> rfl
  · rfl

theorem executeQueryStation_linkAlert (n : StationNum) (part : BitVec 2) (s : State) :
    (executeQueryStation n part s).state.linkAlert = s.linkAlert := by
  unfold executeQueryStation
  split
  · rfl
  · split
    · rfl
    · split <;> rfl

theorem executeSetLimits_linkAlert (f : LimitsFields) (s : State) :
    (executeSetLimits f s).state.linkAlert = s.linkAlert := by
  unfold executeSetLimits
  simp only []
  split
  · rfl
  · split
    · rfl
    · split
      · rfl
      · split <;> rfl

theorem executeSetTiming_linkAlert (f : TimingFields) (s : State) :
    (executeSetTiming f s).state.linkAlert = s.linkAlert := by
  unfold executeSetTiming
  simp only []
  split
  · rfl
  · split
    · rfl
    · split <;> rfl

theorem executeHold_linkAlert (freeze : Bool) (s : State) : (executeHold freeze s).state.linkAlert = s.linkAlert := by
  unfold executeHold
  split <;> rfl

theorem executeResume_linkAlert (s : State) : (executeResume s).state.linkAlert = s.linkAlert := by
  unfold executeResume
  split <;> rfl

theorem execute_linkAlert (c : Command) (s : State) : (execute c s).state.linkAlert = s.linkAlert := by
  cases c with
  | issue f => exact executeIssue_linkAlert f s
  | amend f => exact executeAmend_linkAlert f s
  | revoke grant gen => exact executeRevoke_linkAlert grant gen s
  | sweep station shared => exact executeSweep_linkAlert station shared s
  | queryGrant grant part => exact executeQueryGrant_linkAlert grant part s
  | queryLine line skip => exact executeQueryLine_linkAlert line skip s
  | admitStation station quota => exact executeAdmit_linkAlert station quota s
  | bar station => exact executeBar_linkAlert station s
  | forget station => exact executeForget_linkAlert station s
  | queryStation station part => exact executeQueryStation_linkAlert station part s
  | setLimits f => exact executeSetLimits_linkAlert f s
  | setTiming f => exact executeSetTiming_linkAlert f s
  | hold freeze => exact executeHold_linkAlert freeze s
  | resume => exact executeResume_linkAlert s
  | bad code => rfl

theorem runRecord_linkAlert (r : Record) (s : State) : (runRecord r s).linkAlert = s.linkAlert :=
  (testReadyAll_linkAlert _ _).trans (execute_linkAlert (decodeCommand r) s)

theorem takeCommand_linkAlert (s : State) : (takeCommand s).linkAlert = s.linkAlert := by
  unfold takeCommand
  split
  · rfl
  · split
    · exact runRecord_linkAlert _ _
    · rfl

theorem takeCommands_linkAlert (n : Nat) (s : State) : (takeCommands n s).linkAlert = s.linkAlert := by
  induction n generalizing s with
  | zero => rfl
  | succ n ih => exact (ih (takeCommand s)).trans (takeCommand_linkAlert s)

theorem submitRecord_linkAlert (r : Record) (s : State) : (submitRecord r s).linkAlert = s.linkAlert := by
  unfold submitRecord
  split
  · exact takeCommands_linkAlert _ _
  · rfl

theorem ackRecord_linkAlert (s : State) : (ackRecord s).linkAlert = s.linkAlert := by
  unfold ackRecord
  split
  · rfl
  · simp only []
    split
    · exact takeCommands_linkAlert _ _
    · exact placeBacklogHead_linkAlert _

/-! ### Ticks and the transmitter's completions -/

theorem expireAll_linkAlert (s : State) : (expireAll s).linkAlert = s.linkAlert :=
  (testReadyAll_linkAlert _ _).trans (closeAll_linkAlert .expired _ s)

theorem tickLifetimes_linkAlert (s : State) : (tickLifetimes s).linkAlert = s.linkAlert := by
  unfold tickLifetimes
  split
  · rfl
  · exact expireAll_linkAlert (countDownAll s)

theorem tickNotices_linkAlert (s : State) : (tickNotices s).linkAlert = s.linkAlert :=
  (forSlots_linkAlert endUnacked_linkAlert _).trans (forSlots_linkAlert countInterval_linkAlert s)

theorem offerDue_linkAlert (sl : SlotNum) (s : State) : (offerDue sl s).linkAlert = s.linkAlert :=
  (resendHead_linkAlert sl _).trans (offerNewHead_linkAlert sl s)

theorem tickEvent_linkAlert (s : State) : (tickEvent s).linkAlert = s.linkAlert := by
  have hcounted := (tickNotices_linkAlert _).trans (tickLifetimes_linkAlert { s with tickPhase := 0 })
  exact (txTake_linkAlert _).trans ((forSlots_linkAlert offerDue_linkAlert _).trans hcounted)

theorem immediateSent_linkAlert (s : State) : (immediateSent s).linkAlert = s.linkAlert := by
  unfold immediateSent
  split
  · exact txTake_linkAlert _
  · rfl

theorem contextSent_linkAlert (s : State) : (contextSent s).linkAlert = s.linkAlert := by
  unfold contextSent
  split
  · exact (txTake_linkAlert _).trans (drainTest_linkAlert _)
  · rfl

theorem headNoticeSent_linkAlert (s : State) : (headNoticeSent s).linkAlert = s.linkAlert := by
  unfold headNoticeSent
  split
  · simp only []
    refine (txTake_linkAlert _).trans ?_
    split
    · exact setNotice_linkAlert _ _ s
    · rfl
  · rfl

theorem detachedSent_linkAlert (s : State) : (detachedSent s).linkAlert = s.linkAlert := by
  unfold detachedSent
  split
  · exact txTake_linkAlert _
  · rfl

/-! ### The link enters and leaves UP (R127, R128) -/

/-- The link that leaves UP is in the state it leaves for, with LINK_CHANGE latched. -/
theorem linkLeavesUp_linkAlert (next : LinkState) (s : State) : (linkLeavesUp next s).linkAlert = (next, true) := by
  unfold linkLeavesUp
  simp only []
  split
  · exact drainTest_linkAlert _
  · rfl

/-- The link that enters UP has LINK_CHANGE latched. -/
theorem linkEntersUp_linkAlert (s : State) : (linkEntersUp s).linkAlert = (.up, true) :=
  (txTake_linkAlert _).trans (forSlots_linkAlert reofferHead_linkAlert _)

/-! ### The rule of R129 for two states and for a command's outcome -/

/-- Between `s` and `t` LINK_CHANGE is latched exactly if the link went between UP and not UP (R129). -/
def State.LinkChangeFollows (s t : State) : Prop :=
  t.alerts.linkChange = if (s.link = .up ↔ t.link = .up) then s.alerts.linkChange else true

/-- The outcome is a next state, reached from `s` as R129 says. -/
def LatchesLinkChange (s : State) (r : Result) : Prop := ∃ t, r = .next t ∧ s.LinkChangeFollows t

/-- A link that stays on its side of UP and an alert that stays as it is follow R129. -/
theorem State.LinkChangeFollows.of_same_side {s t : State} (hlink : s.link = .up ↔ t.link = .up)
    (halert : t.alerts.linkChange = s.alerts.linkChange) : s.LinkChangeFollows t :=
  halert.trans (if_pos hlink).symm

/-- With the link state and LINK_CHANGE kept R129 is followed. -/
theorem State.LinkChangeFollows.of_kept {s t : State} (h : t.linkAlert = s.linkAlert) : s.LinkChangeFollows t := by
  obtain ⟨hlink, halert⟩ := Prod.mk.inj h
  exact .of_same_side (by rw [hlink]) halert

/-- A link that goes between UP and not UP with LINK_CHANGE latched follows R129. -/
theorem State.LinkChangeFollows.of_crossing {s t : State} {l : LinkState} (h : t.linkAlert = (l, true))
    (hcross : ¬ (s.link = .up ↔ l = .up)) : s.LinkChangeFollows t := by
  obtain ⟨hlink, halert⟩ := Prod.mk.inj h
  rw [← hlink] at hcross
  exact halert.trans (if_neg hcross).symm

/-- An event whose effect follows R129 has an outcome that does; in reset the part stays as it is (R185). -/
theorem event_latches {f : State → State} {s : State} (h : s.LinkChangeFollows (f s)) :
    LatchesLinkChange s (event f s) := by
  cases hreset : s.inReset with
  | true => exact ⟨s, event_held hreset, .of_kept rfl⟩
  | false => exact ⟨f s, event_running hreset, h⟩

/-- An event whose effect keeps the link state and LINK_CHANGE follows R129. -/
theorem event_latches_of_kept {f : State → State} (hf : ∀ s, (f s).linkAlert = s.linkAlert) (s : State) :
    LatchesLinkChange s (event f s) :=
  event_latches (.of_kept (hf s))

/-- A host command's submission follows R129. -/
theorem command_latches (tag : BitVec 16) (c : Command) (s : State) : LatchesLinkChange s (command tag c s) :=
  event_latches_of_kept (submitRecord_linkAlert (encodeCommand tag c)) s

/-- A frame's arrival follows R129. -/
theorem arrive_latches (a : Arrival) (s : State) : LatchesLinkChange s (event (arrive a) s) :=
  event_latches_of_kept (arrive_linkAlert a) s

/-- An interval's expiry follows R129, whether it acts or not. -/
theorem noticeIntervalExpiry_latches (sl : SlotNum) (s : State) :
    LatchesLinkChange s (execNoticeIntervalExpiry sl s) := by
  refine event_latches_of_kept (fun s => ?_) s
  split
  · exact (txTake_linkAlert _).trans ((offerDue_linkAlert sl _).trans (endUnacked_linkAlert sl s))
  · rfl

/-! ### Register writes and sync events -/

/-- The LINK_ENABLE field takes the link out of UP only through the link's leaving UP (R125, R127). -/
theorem linkEnableWrite_follows (b : Bool) (s : State) : s.LinkChangeFollows (linkEnableWrite b s) := by
  cases b with
  | true =>
    simp only [linkEnableWrite, if_true]
    split
    · split
      · next hdown => exact .of_same_side (by simp [hdown]) rfl
      · exact .of_kept rfl
    · exact .of_kept rfl
  | false =>
    simp only [linkEnableWrite, Bool.false_eq_true, if_false]
    split
    · exact .of_kept rfl
    · next htraining => exact .of_same_side (by simp [htraining]) rfl
    · next hup => exact .of_crossing (linkLeavesUp_linkAlert .down _) (by simp [hup])

/-- A CONTROL write with ENGINE_RESET 0 follows R129. -/
theorem controlWrite_follows {v : Word} (s : State) (h : v.getLsbD 1 = false) :
    s.LinkChangeFollows (controlWrite v s) := by
  simp only [controlWrite, h, Bool.false_eq_true, if_false]
  exact linkEnableWrite_follows (v.getLsbD 0) { s with enables := Enables.ofWord v }

/-- Fixing one bit of a word leaves its other bits. -/
theorem getLsbD_withBit_other (v : Word) {i j : Nat} (b : Bool) (hj : j < 32) (hij : i ≠ j) :
    (withBit v i b).getLsbD j = v.getLsbD j := by
  simp only [withBit, BitVec.getLsbD_or, BitVec.getLsbD_and, BitVec.getLsbD_not, getLsbD_flag]
  simp [hj, hij]

/-- A write to ALERTS with bit 0 clear keeps LINK_CHANGE (R171). -/
theorem alertsWrite_linkAlert {v : Word} (s : State) (h : v.getLsbD 0 = false) :
    (alertsWrite v s).linkAlert = s.linkAlert := by
  simp only [alertsWrite, State.linkAlert, Alerts.clearBy, h, Bool.not_false, Bool.and_true]

/-- A write that is not of full width, or at an offset that no writable word has, changes nothing (R182). -/
theorem windowWrite_ignored {offset : BitVec 8} {lanes : BitVec 4} {v : Word}
    (h : WellFormed (.ignoredWrite offset lanes v) = true) (s : State) : windowWrite offset lanes v s = s := by
  by_cases hlanes : lanes = 0xF
  · have hoffset : isWritableOffset offset = false := by simpa [WellFormed, hlanes] using h
    simp only [isWritableOffset, List.contains_eq_mem, decide_eq_false_iff_not, List.mem_cons, List.not_mem_nil,
      or_false, not_or] at hoffset
    obtain ⟨h04, h0C, h10, h14, h18, h1C, h20, h40⟩ := hoffset
    simp only [windowWrite, hlanes, if_true]
  · simp only [windowWrite, hlanes, if_false]

/-- The loss of sync takes the link out of UP only through the link's leaving UP (R126, R127). -/
theorem syncLost_follows (s : State) : s.LinkChangeFollows (syncLost s) := by
  unfold syncLost
  split
  · exact .of_kept rfl
  · exact .of_kept rfl
  · next hup => exact .of_crossing (linkLeavesUp_linkAlert .training s) (by simp [hup])

/-- The training's completion takes the link from TRAINING into UP, and does nothing elsewhere (R126, R128). -/
theorem trainingComplete_follows (s : State) : s.LinkChangeFollows (trainingComplete s) := by
  unfold trainingComplete
  split
  · next hl => exact .of_crossing (linkEntersUp_linkAlert s) (by simp [hl])
  · exact .of_kept rfl

/-! ### The statement -/

/-- Settles O10: a CONTROL write, the loss of sync and the training's completion latch LINK_CHANGE exactly when they take
the link across UP; every other command keeps both the link state and the alert. -/
theorem linkChangeLatches : Obligations.LinkChangeLatches := by
  intro c s hwf hclear
  show LatchesLinkChange s (exec c s)
  cases c with
  | powerOnReset | engineReset => cases hclear
  | linkEnable v =>
    exact event_latches (controlWrite_follows s ((getLsbD_withBit_other v true (by decide) (by decide)).trans hclear))
  | linkDisable v =>
    exact event_latches (controlWrite_follows s ((getLsbD_withBit_other v false (by decide) (by decide)).trans hclear))
  | interruptEnableWrite v =>
    exact event_latches (controlWrite_follows s (getLsbD_withBit_self v (by decide) false))
  | alertsClear v => exact event_latches_of_kept (fun s => alertsWrite_linkAlert s hclear) s
  | ignoredWrite offset lanes v =>
    exact event_latches_of_kept (fun s => congrArg State.linkAlert (windowWrite_ignored hwf s)) s
  | syncLost => exact event_latches (syncLost_follows s)
  | trainingComplete => exact event_latches (trainingComplete_follows s)
  | stageWrite i v => exact event_latches_of_kept (f := stageWrite i v) (fun _ => rfl) s
  | submit => exact event_latches_of_kept (fun s => submitRecord_linkAlert s.stage s) s
  | cqAck => exact event_latches_of_kept ackRecord_linkAlert s
  | backlogPlace => exact event_latches_of_kept placeBacklogHead_linkAlert s
  | issue | amend | revoke | sweep | queryGrant | queryLine | admitStation | bar | forget | queryStation | setLimits
  | setTiming | hold | resume | badCommand => exact command_latches _ _ s
  | filteredFrame bytes => exact event_latches_of_kept (receiveFrame_linkAlert bytes) s
  | unknownKindFrame | hello | read | write | renew | returnGrant | probe | noticeAck => exact arrive_latches _ s
  | tick => exact event_latches_of_kept tickEvent_linkAlert s
  | grantExpiry =>
    exact event_latches_of_kept (fun s => (txTake_linkAlert _).trans
      ((forSlots_linkAlert offerNewHead_linkAlert _).trans (expireAll_linkAlert s))) s
  | noticeIntervalExpiry sl => exact noticeIntervalExpiry_latches sl s
  | noticeOffer sl =>
    exact event_latches_of_kept (fun s => (txTake_linkAlert _).trans (offerNewHead_linkAlert sl s)) s
  | transmitStart => exact event_latches_of_kept txTake_linkAlert s
  | immediateReplySent => exact event_latches_of_kept immediateSent_linkAlert s
  | contextReplySent => exact event_latches_of_kept contextSent_linkAlert s
  | noticeSent => exact event_latches_of_kept headNoticeSent_linkAlert s
  | detachedNoticeSent => exact event_latches_of_kept detachedSent_linkAlert s
  | lineOperationStart => exact event_latches_of_kept givePort_linkAlert s
  | lineDone data => exact event_latches_of_kept (lineEnd_linkAlert (.done data)) s
  | lineBusFault => exact event_latches_of_kept (lineEnd_linkAlert .fault) s
  | detachedLineEnd result => exact event_latches_of_kept (detachedEnd_linkAlert result) s
  | grantReady g => exact event_latches_of_kept (testReady_linkAlert g) s
  | drainEnd => exact event_latches_of_kept drainTest_linkAlert s

end Sys2Proof.Machine
end


section
/-! PROOFS. The staging words (R138): a write sets one of them and a read shows it, the resets clear all four (R184,
R185), and every other operation of the part leaves them as they are. -/

namespace Sys2Proof.Machine

/-! ### A write, and its reading back (R138, R182) -/

theorem exec_stageWrite (i : Fin 4) (v : Word) (s : State) : exec (.stageWrite i v) s = event (stageWrite i v) s := rfl

/-- The words at 10H to 1CH of the window are the staging words (Table 11-1). -/
theorem windowWord_stage (s : State) (i : Fin 4) :
    windowWord s (BitVec.ofNat 8 (4 * (4 + i.val))) = s.stage[i.val] := by
  match i with
  | 0 => rfl
  | 1 => rfl
  | 2 => rfl
  | 3 => rfl

/-- A full-width read at a staging word's offset shows the word, outside reset. -/
theorem readWindow_stage {s : State} (h : s.inReset = false) (i : Fin 4) :
    readWindow s (BitVec.ofNat 8 (16 + 4 * i.val)) 15 = s.stage[i.val] := by
  have hoffset : 16 + 4 * i.val = 4 * (4 + i.val) := by omega
  rw [hoffset, readWindow_full s ⟨4 + i.val, by omega⟩ h, windowWord_stage]

/-! ### What keeps the staging words: acts in turn, and the shared operations -/

/-- What every act keeps, the acts in turn over a list keep. -/
theorem foldl_stage {α : Type} {f : State → α → State} (hf : ∀ s a, (f s a).stage = s.stage) (l : List α)
    (s : State) : (l.foldl f s).stage = s.stage := by
  induction l generalizing s with
  | nil => rfl
  | cons a l ih => exact (ih (f s a)).trans (hf s a)

/-- What the act on one slot keeps, the act on every slot keeps. -/
theorem forSlots_stage {f : SlotNum → State → State} (hf : ∀ sl s, (f sl s).stage = s.stage) (s : State) :
    (forSlots f s).stage = s.stage :=
  forSlots_induction (P := fun t => t.stage = s.stage) (fun sl t ht => (hf sl t).trans ht) rfl

@[simp] theorem testReady_stage (g : GrantNum) (s : State) : (testReady g s).stage = s.stage :=
  let ⟨_, _, _, _, _, _, _, h⟩ := testReady_only g s
  (congrArg State.stage h).trans rfl

@[simp] theorem testReadyAll_stage (gs : List GrantNum) (s : State) : (testReadyAll gs s).stage = s.stage :=
  foldl_stage (fun s g => testReady_stage g s) gs s

@[simp] theorem handAdmitted_stage (sl : SlotNum) (n : StationNum) (s : State) :
    (handAdmitted sl n s).stage = s.stage :=
  let ⟨_, _, _, _, h⟩ := handAdmitted_only sl n s
  (congrArg State.stage h).trans rfl

@[simp] theorem handRestarted_stage (sl : SlotNum) (r : Station) (epoch : BitVec 16) (swept : Nat) (s : State) :
    (handRestarted sl r epoch swept s).stage = s.stage :=
  let ⟨_, _, _, _, h⟩ := handRestarted_only sl r epoch swept s
  (congrArg State.stage h).trans rfl

@[simp] theorem placeBacklogHead_stage (s : State) : (placeBacklogHead s).stage = s.stage :=
  let ⟨_, _, _, _, _, _, h⟩ := placeBacklogHead_only s
  (congrArg State.stage h).trans rfl

@[simp] theorem drainTest_stage (s : State) : (drainTest s).stage = s.stage :=
  let ⟨_, _, _, _, h⟩ := drainTest_only s
  (congrArg State.stage h).trans rfl

@[simp] theorem txTake_stage (s : State) : (txTake s).stage = s.stage :=
  let ⟨_, _, _, h⟩ := txTake_only s
  (congrArg State.stage h).trans rfl

@[simp] theorem closeGrant_stage (cause : Cause) (g : GrantNum) (s : State) : (closeGrant cause g s).stage = s.stage :=
  let ⟨_, _, h⟩ := closeGrant_only cause g s
  (congrArg State.stage h).trans rfl

@[simp] theorem closeAll_stage (cause : Cause) (gs : List GrantNum) (s : State) :
    (closeAll cause gs s).stage = s.stage :=
  foldl_stage (fun s g => closeGrant_stage cause g s) gs s

@[simp] theorem setNotice_stage (g : GrantNum) (n : Notice) (s : State) : (setNotice g n s).stage = s.stage :=
  let ⟨_, h⟩ := setNotice_only g n s
  (congrArg State.stage h).trans rfl

@[simp] theorem offerNewHead_stage (sl : SlotNum) (s : State) : (offerNewHead sl s).stage = s.stage :=
  let ⟨_, _, h⟩ := offerNewHead_only sl s
  (congrArg State.stage h).trans rfl

@[simp] theorem resendHead_stage (sl : SlotNum) (s : State) : (resendHead sl s).stage = s.stage :=
  let ⟨_, _, h⟩ := resendHead_only sl s
  (congrArg State.stage h).trans rfl

@[simp] theorem reofferHead_stage (sl : SlotNum) (s : State) : (reofferHead sl s).stage = s.stage :=
  let ⟨_, _, h⟩ := reofferHead_only sl s
  (congrArg State.stage h).trans rfl

@[simp] theorem countInterval_stage (sl : SlotNum) (s : State) : (countInterval sl s).stage = s.stage :=
  let ⟨_, h⟩ := countInterval_only sl s
  (congrArg State.stage h).trans rfl

@[simp] theorem leaveQueue_stage (sl : SlotNum) (outcome : Notice) (s : State) :
    (leaveQueue sl outcome s).stage = s.stage :=
  let ⟨_, _, _, _, h⟩ := leaveQueue_only sl outcome s
  (congrArg State.stage h).trans rfl

@[simp] theorem abandonQueue_stage (sl : SlotNum) (s : State) : (abandonQueue sl s).stage = s.stage :=
  let ⟨_, _, _, h⟩ := abandonQueue_only sl s
  (congrArg State.stage h).trans rfl

@[simp] theorem endUnacked_stage (sl : SlotNum) (s : State) : (endUnacked sl s).stage = s.stage := by
  unfold endUnacked
  split
  · split <;> simp
  · rfl

/-! ### The node bus -/

@[simp] theorem givePort_stage (s : State) : (givePort s).stage = s.stage :=
  let ⟨_, _, _, h⟩ := givePort_only s
  (congrArg State.stage h).trans rfl

@[simp] theorem acceptWrite_stage (op : LineOp) (res : LineResult) (s : State) :
    (acceptWrite op res s).stage = s.stage :=
  let ⟨_, h⟩ := acceptWrite_only op res s
  (congrArg State.stage h).trans rfl

@[simp] theorem takeResult_stage (c : CtxNum) (res : LineResult) (s : State) : (takeResult c res s).stage = s.stage :=
  let ⟨_, _, _, _, _, _, _, _, _, _, h⟩ := takeResult_only c res s
  (congrArg State.stage h).trans rfl

@[simp] theorem lineEnd_stage (res : LineResult) (s : State) : (lineEnd res s).stage = s.stage := by
  unfold lineEnd
  split
  · rfl
  · next owner op _ => cases owner <;> simp

@[simp] theorem detachedEnd_stage (res : LineResult) (s : State) : (detachedEnd res s).stage = s.stage := by
  unfold detachedEnd
  split <;> simp

/-! ### Arrivals -/

@[simp] theorem immediate_stage (r : Reply) (s : State) : (immediate r s).stage = s.stage :=
  let ⟨_, _, _, _, _, h⟩ := immediate_only r s
  (congrArg State.stage h).trans rfl

@[simp] theorem answer_stage (r : Request) (status : ReplyStatus) (value : Word) (replayed : Bool) (s : State) :
    (answer r status value replayed s).stage = s.stage :=
  immediate_stage _ s

@[simp] theorem definitive_stage (sl : SlotNum) (r : Request) (status : ReplyStatus) (value : Word) (replayed : Bool)
    (s : State) : (definitive sl r status value replayed s).stage = s.stage :=
  answer_stage r status value replayed _

@[simp] theorem bind_stage (c : CtxNum) (sl : SlotNum) (r : Request) (g : GrantNum) (t : Terms) (replayed : Bool)
    (s : State) : (bind c sl r g t replayed s).stage = s.stage :=
  givePort_stage _

theorem transferAction_stage (sl : SlotNum) (r : Request) (replayed : Bool) (g : GrantNum) (t : Terms) (s : State) :
    (transferAction sl r replayed g t s).stage = s.stage := by
  unfold transferAction
  split
  · simp
  · split <;> simp

theorem renewAction_stage (sl : SlotNum) (r : Request) (replayed : Bool) (g : GrantNum) (t : Terms) (s : State) :
    (renewAction sl r replayed g t s).stage = s.stage := by
  unfold renewAction
  split
  · simp
  · split <;> simp

theorem kindAction_stage (sl : SlotNum) (r : Request) (replayed : Bool) (g : GrantNum) (t : Terms) (s : State) :
    (kindAction sl r replayed g t s).stage = s.stage := by
  unfold kindAction
  cases r.kind with
  | read | write => exact transferAction_stage ..
  | renew => exact renewAction_stage ..
  | returnGrant => simp [returnAction]
  | probe => simp [probeAction]

theorem resolveRequest_stage (sl : SlotNum) (r : Request) (replayed : Bool) (s : State) :
    (resolveRequest sl r replayed s).stage = s.stage := by
  unfold resolveRequest
  cases s.resolve r.grant r.gen with
  | badRef | stale | closed => exact definitive_stage ..
  | live g t => simp [apply_ite State.stage, kindAction_stage]

theorem sequenceRequest_stage (sl : SlotNum) (x : Station) (last : Byte) (r : Request) (s : State) :
    (sequenceRequest sl x last r s).stage = s.stage := by
  unfold sequenceRequest
  cases sequenceRule x last r.kind r.seq with
  | discard => rfl
  | outOfOrder | busy | replay => exact answer_stage ..
  | go replayed => exact resolveRequest_stage ..

theorem takeRequest_stage (r : Request) (s : State) : (takeRequest r s).stage = s.stage := by
  unfold takeRequest
  split
  · simp
  · split
    · simp
    · split
      · simp
      · split
        · simp
        · split <;> simp [sequenceRequest_stage]

@[simp] theorem answerHello_stage (src : StationNum) (seq : Byte) (status : ReplyStatus) (value : Word) (s : State) :
    (answerHello src seq status value s).stage = s.stage :=
  immediate_stage _ s

theorem resynchronise_stage (sl : SlotNum) (x : Station) (epoch : BitVec 16) (start : Byte) (s : State) :
    (resynchronise sl x epoch start s).stage = s.stage := by
  rw [resynchronise, State.modifyRecord_stage]
  unfold orphanPending
  split
  · rfl
  · split <;> rfl

theorem restartStation_stage (sl : SlotNum) (x : Station) (epoch : BitVec 16) (s : State) :
    (restartStation sl x epoch s).stage = s.stage := by
  simp [restartStation, foldl_stage]

theorem handleHello_stage (sl : SlotNum) (x : Station) (src : StationNum) (seq : Byte) (epoch : BitVec 16)
    (start : Byte) (s : State) : (handleHello sl x src seq epoch start s).stage = s.stage := by
  simp only [handleHello]
  split <;> simp [restartStation_stage, resynchronise_stage]

@[simp] theorem createStation_stage (sl : SlotNum) (x : Station) (s : State) : (createStation sl x s).stage = s.stage :=
  rfl

theorem takeHello_stage (src : StationNum) (seq : Byte) (epoch : BitVec 16) (start : Byte) (s : State) :
    (takeHello src seq epoch start s).stage = s.stage := by
  unfold takeHello
  split
  · split
    · split <;> simp [handleHello_stage]
    · simp
  · split
    · simp
    · simp [apply_ite State.stage, handleHello_stage]

theorem takeNoticeAck_stage (src : StationNum) (seq : Byte) (grant : BitVec 16) (gen : Byte) (s : State) :
    (takeNoticeAck src seq grant gen s).stage = s.stage := by
  unfold takeNoticeAck
  split
  · simp
  · split <;> simp

@[simp] theorem takeArrival_stage (a : Arrival) (s : State) : (takeArrival a s).stage = s.stage := by
  cases a with
  | hello src seq epoch start => exact takeHello_stage ..
  | request r => exact takeRequest_stage r s
  | noticeAck src seq grant gen => exact takeNoticeAck_stage ..
  | unknown src seq kind => simp [takeArrival, takeUnknown, apply_ite State.stage]

theorem arrive_stage (a : Arrival) (s : State) : (arrive a s).stage = s.stage := by
  simp [arrive, apply_ite State.stage]

theorem receiveFrame_stage (bs : List Byte) (s : State) : (receiveFrame bs s).stage = s.stage := by
  unfold receiveFrame
  split
  · simp only []
    split <;> simp
  · rfl

/-! ### Host commands: the taking of a command and its execution reach no staging word (R138) -/

@[simp] theorem refuse_state (status : CmdStatus) (s : State) : (refuse status s).state = s := rfl

@[simp] theorem refuseWith_state (status : CmdStatus) (w1 w2 : Word) (s : State) :
    (refuseWith status w1 w2 s).state = s := rfl

@[simp] theorem done_state (w1 w2 w3 : Word) (s : State) : (done w1 w2 w3 s).state = s := rfl

/-- What a command does with a LIVE entry decides: the refusals of R8 change nothing. -/
theorem onLive_stage {s : State} {f : GrantNum → Terms → Executed} (hf : ∀ g t, (f g t).state.stage = s.stage)
    (grant : BitVec 16) (gen : BitVec 8) : (onLive s grant gen f).state.stage = s.stage := by
  unfold onLive
  cases s.resolve grant gen with
  | badRef | stale | closed => rfl
  | live g t => exact hf g t

@[simp] theorem allocate_stage (g : GrantNum) (rest : List GrantNum) (t : Terms) (s : State) :
    (allocate g rest t s).stage = s.stage :=
  let ⟨_, h⟩ := allocate_only g rest t s
  (congrArg State.stage h).trans rfl

theorem executeIssue_stage (f : IssueFields) (s : State) : (executeIssue f s).state.stage = s.stage := by
  unfold executeIssue
  split
  · rfl
  · simp only []
    split
    · rfl
    · split
      · rfl
      · split
        · rfl
        · split
          · rfl
          · split <;> simp

theorem executeAmend_stage (f : AmendFields) (s : State) : (executeAmend f s).state.stage = s.stage := by
  refine onLive_stage (fun g t => ?_) f.grant f.gen
  simp only []
  split
  · rfl
  · split
    · rfl
    · split
      · rfl
      · split <;> rfl

@[simp] theorem offerForHolder_stage (h : Holder) (s : State) : (offerForHolder h s).stage = s.stage := by
  unfold offerForHolder
  split
  · rfl
  · split <;> simp

theorem executeRevoke_stage (grant : BitVec 16) (gen : BitVec 8) (s : State) :
    (executeRevoke grant gen s).state.stage = s.stage :=
  onLive_stage (fun g t => by simp) grant gen

theorem executeSweep_stage (station : StationNum) (shared : Bool) (s : State) :
    (executeSweep station shared s).state.stage = s.stage := by
  unfold executeSweep
  split <;> simp

theorem executeQueryGrant_state (grant : BitVec 16) (part : BitVec 2) (s : State) :
    (executeQueryGrant grant part s).state = s := by
  unfold executeQueryGrant
  split
  · simp [apply_ite Executed.state]
  · rfl

theorem executeQueryLine_state (line : Word) (skip : BitVec 16) (s : State) :
    (executeQueryLine line skip s).state = s := by
  unfold executeQueryLine
  split
  · rfl
  · simp only []
    split <;> rfl

theorem admitOrBar_stage (n : StationNum) (change : Station → Station) (created : Station) (s : State) :
    (admitOrBar n change created s).state.stage = s.stage := by
  unfold admitOrBar
  split
  · rfl
  · split <;> rfl

theorem executeAdmit_stage (n : StationNum) (quota : BitVec 16) (s : State) :
    (executeAdmit n quota s).state.stage = s.stage := by
  unfold executeAdmit
  split
  · rfl
  · exact admitOrBar_stage ..

theorem executeBar_stage (n : StationNum) (s : State) : (executeBar n s).state.stage = s.stage := by
  unfold executeBar
  split
  · rfl
  · exact admitOrBar_stage ..

theorem executeForget_stage (n : StationNum) (s : State) : (executeForget n s).state.stage = s.stage := by
  unfold executeForget
  split
  · split
    · rfl
    · split
      · rfl
      · split <;> rfl
  · rfl

theorem executeQueryStation_state (n : StationNum) (part : BitVec 2) (s : State) :
    (executeQueryStation n part s).state = s := by
  unfold executeQueryStation
  split
  · rfl
  · split
    · rfl
    · split <;> rfl

theorem executeSetLimits_stage (f : LimitsFields) (s : State) : (executeSetLimits f s).state.stage = s.stage := by
  simp only [executeSetLimits]
  split
  · rfl
  · simp [apply_ite Executed.state, apply_ite State.stage]

theorem executeSetTiming_stage (f : TimingFields) (s : State) : (executeSetTiming f s).state.stage = s.stage := by
  simp only [executeSetTiming]
  split
  · rfl
  · simp [apply_ite Executed.state, apply_ite State.stage]

theorem executeHold_stage (freeze : Bool) (s : State) : (executeHold freeze s).state.stage = s.stage := by
  unfold executeHold
  split <;> rfl

theorem executeResume_stage (s : State) : (executeResume s).state.stage = s.stage := by
  unfold executeResume
  split <;> rfl

/-- Executing a command keeps the staging words. -/
theorem execute_stage (c : Command) (s : State) : (execute c s).state.stage = s.stage := by
  cases c with
  | issue f => exact executeIssue_stage f s
  | amend f => exact executeAmend_stage f s
  | revoke grant gen => exact executeRevoke_stage grant gen s
  | sweep station shared => exact executeSweep_stage station shared s
  | queryGrant grant part => exact congrArg State.stage (executeQueryGrant_state grant part s)
  | queryLine line skip => exact congrArg State.stage (executeQueryLine_state line skip s)
  | admitStation station quota => exact executeAdmit_stage station quota s
  | bar station => exact executeBar_stage station s
  | forget station => exact executeForget_stage station s
  | queryStation station part => exact congrArg State.stage (executeQueryStation_state station part s)
  | setLimits f => exact executeSetLimits_stage f s
  | setTiming f => exact executeSetTiming_stage f s
  | hold freeze => exact executeHold_stage freeze s
  | resume => exact executeResume_stage s
  | bad code => rfl

theorem takeCommand_stage (s : State) : (takeCommand s).stage = s.stage := by
  unfold takeCommand
  split
  · rfl
  · split
    · simp [runRecord, execute_stage]
    · rfl

@[simp] theorem takeCommands_stage (n : Nat) (s : State) : (takeCommands n s).stage = s.stage := by
  induction n generalizing s with
  | zero => rfl
  | succ n ih => exact (ih (takeCommand s)).trans (takeCommand_stage s)

/-- The submission of a record, the staged one included, keeps the staging words (R139). -/
theorem submitRecord_stage (r : Record) (s : State) : (submitRecord r s).stage = s.stage := by
  simp [submitRecord, apply_ite State.stage]

theorem ackRecord_stage (s : State) : (ackRecord s).stage = s.stage := by
  unfold ackRecord
  split
  · rfl
  · simp [apply_ite State.stage]

/-! ### Ticks, the transmitter's completions and the link -/

@[simp] theorem expireAll_stage (s : State) : (expireAll s).stage = s.stage := by
  simp [expireAll]

theorem tickLifetimes_stage (s : State) : (tickLifetimes s).stage = s.stage := by
  simp [tickLifetimes, countDownAll, apply_ite State.stage]

theorem tickNotices_stage (s : State) : (tickNotices s).stage = s.stage :=
  (forSlots_stage endUnacked_stage _).trans (forSlots_stage countInterval_stage s)

@[simp] theorem offerDue_stage (sl : SlotNum) (s : State) : (offerDue sl s).stage = s.stage := by
  simp [offerDue]

theorem tickEvent_stage (s : State) : (tickEvent s).stage = s.stage := by
  simp [tickEvent, forSlots_stage, tickNotices_stage, tickLifetimes_stage]

theorem immediateSent_stage (s : State) : (immediateSent s).stage = s.stage := by
  unfold immediateSent
  split <;> simp

theorem contextSent_stage (s : State) : (contextSent s).stage = s.stage := by
  unfold contextSent
  split <;> simp [clearPending]

theorem headNoticeSent_stage (s : State) : (headNoticeSent s).stage = s.stage := by
  unfold headNoticeSent
  split
  · simp only [txTake_stage, State.setSlot_stage]
    split <;> simp
  · rfl

theorem detachedSent_stage (s : State) : (detachedSent s).stage = s.stage := by
  unfold detachedSent
  split <;> simp

@[simp] theorem linkLeavesUp_stage (next : LinkState) (s : State) : (linkLeavesUp next s).stage = s.stage :=
  let ⟨_, _, _, _, _, _, h⟩ := linkLeavesUp_only next s
  (congrArg State.stage h).trans rfl

theorem syncLost_stage (s : State) : (syncLost s).stage = s.stage := by
  unfold syncLost
  split <;> simp

theorem trainingComplete_stage (s : State) : (trainingComplete s).stage = s.stage := by
  simp [trainingComplete, linkEntersUp, forSlots_stage, apply_ite State.stage]

@[simp] theorem linkEnableWrite_stage (b : Bool) (s : State) : (linkEnableWrite b s).stage = s.stage := by
  cases b with
  | true => simp [linkEnableWrite, apply_ite State.stage]
  | false => cases hl : s.link <;> simp [linkEnableWrite, hl]

/-! ### The resets (R184, R185) -/

theorem powerOn_stage (low out : Bool) (straps : BitVec 6) (s : State) :
    (powerOn low out straps s).stage = #v[0, 0, 0, 0] := by
  simp only [powerOn, State.reset]
  rfl

/-- A CONTROL write sets the staging words to 0 with ENGINE_RESET 1, and keeps them with ENGINE_RESET 0 (R183, R184). -/
theorem controlWrite_stage (v : Word) (s : State) :
    (controlWrite v s).stage = if v.getLsbD 1 = true then #v[0, 0, 0, 0] else s.stage := by
  simp only [controlWrite]
  split
  · rfl
  · simp

/-! ### The outcome of a command -/

/-- The outcome of a command on `s` is a next state whose staging words are 0 if the command resets the part, and else
those of `s`. In reset, power-on reset alone acts (R185). -/
def LeavesStage (c : Instr) (s : State) (r : Result) : Prop :=
  ∃ t, r = .next t ∧
    t.stage = if resetsPart c = true ∧ (s.inReset = false ∨ isPowerOnReset c = true) then #v[0, 0, 0, 0] else s.stage

/-- An event leaves the staging words as its effect does; in reset they stay (R185). -/
theorem event_leavesStage {c : Instr} {f : State → State} {s : State} (hc : isPowerOnReset c = false)
    (hf : (f s).stage = if resetsPart c = true then #v[0, 0, 0, 0] else s.stage) : LeavesStage c s (event f s) := by
  cases hreset : s.inReset with
  | true => exact ⟨s, event_held hreset, by simp [hreset, hc]⟩
  | false => exact ⟨f s, event_running hreset, by simp [hreset, hf]⟩

/-- An event that resets nothing and whose effect keeps the staging words. -/
theorem event_leavesStage_of_kept {c : Instr} {f : State → State} (hc : resetsPart c = false)
    (hf : ∀ s, (f s).stage = s.stage) (s : State) : LeavesStage c s (event f s) := by
  have hpower : isPowerOnReset c = false := by
    cases c with
    | powerOnReset => cases hc
    | _ => rfl
  exact event_leavesStage hpower (by rw [hf, if_neg (by simp [hc])])

/-- A CONTROL write of a word whose ENGINE_RESET bit says whether the command resets the part. -/
theorem controlWrite_leavesStage {c : Instr} {v : Word} (hc : isPowerOnReset c = false)
    (hv : v.getLsbD 1 = resetsPart c) (s : State) : LeavesStage c s (event (controlWrite v) s) :=
  event_leavesStage hc (by rw [controlWrite_stage, hv])

/-- An interval's expiry keeps the staging words, whether it acts or not. -/
theorem noticeIntervalExpiry_leavesStage (sl : SlotNum) (s : State) :
    LeavesStage (.noticeIntervalExpiry sl) s (execNoticeIntervalExpiry sl s) := by
  refine event_leavesStage_of_kept rfl (fun s => ?_) s
  simp [apply_ite State.stage]

/-! ### The statement -/

/-- Every well-formed command but STAGE_WRITE leaves the staging words, or resets them with the part. -/
theorem exec_leavesStage {c : Instr} (s : State) (hwf : WellFormed c = true) (hc : ∀ i v, c ≠ .stageWrite i v) :
    LeavesStage c s (exec c s) := by
  cases c with
  | stageWrite i v => exact absurd rfl (hc i v)
  | powerOnReset low out straps =>
    exact ⟨_, exec_powerOnReset low out straps s, (powerOn_stage low out straps s).trans (if_pos ⟨rfl, .inr rfl⟩).symm⟩
  | engineReset v => exact controlWrite_leavesStage rfl (getLsbD_withBit_self v (by decide) true) s
  | linkEnable v => exact controlWrite_leavesStage rfl (getLsbD_withBit_other v true (by decide) (by decide)) s
  | linkDisable v => exact controlWrite_leavesStage rfl (getLsbD_withBit_other v false (by decide) (by decide)) s
  | interruptEnableWrite v => exact controlWrite_leavesStage rfl (getLsbD_withBit_self v (by decide) false) s
  | alertsClear v => exact event_leavesStage_of_kept (f := alertsWrite v) rfl (fun _ => rfl) s
  | ignoredWrite offset lanes v =>
    exact event_leavesStage_of_kept rfl (fun s => congrArg State.stage (windowWrite_ignored hwf s)) s
  | submit => exact event_leavesStage_of_kept rfl (fun s => submitRecord_stage s.stage s) s
  | cqAck => exact event_leavesStage_of_kept rfl ackRecord_stage s
  | backlogPlace => exact event_leavesStage_of_kept rfl placeBacklogHead_stage s
  | issue | amend | revoke | sweep | queryGrant | queryLine | admitStation | bar | forget | queryStation | setLimits
  | setTiming | hold | resume | badCommand => exact event_leavesStage_of_kept rfl (submitRecord_stage _) s
  | filteredFrame bytes => exact event_leavesStage_of_kept rfl (receiveFrame_stage bytes) s
  | unknownKindFrame | hello | read | write | renew | returnGrant | probe | noticeAck =>
    exact event_leavesStage_of_kept rfl (arrive_stage _) s
  | syncLost => exact event_leavesStage_of_kept rfl syncLost_stage s
  | trainingComplete => exact event_leavesStage_of_kept rfl trainingComplete_stage s
  | tick => exact event_leavesStage_of_kept rfl tickEvent_stage s
  | grantExpiry =>
    exact event_leavesStage_of_kept rfl
      (fun s => (txTake_stage _).trans ((forSlots_stage offerNewHead_stage _).trans (expireAll_stage s))) s
  | noticeIntervalExpiry sl => exact noticeIntervalExpiry_leavesStage sl s
  | noticeOffer sl => exact event_leavesStage_of_kept rfl (fun s => (txTake_stage _).trans (offerNewHead_stage sl s)) s
  | transmitStart => exact event_leavesStage_of_kept rfl txTake_stage s
  | immediateReplySent => exact event_leavesStage_of_kept rfl immediateSent_stage s
  | contextReplySent => exact event_leavesStage_of_kept rfl contextSent_stage s
  | noticeSent => exact event_leavesStage_of_kept rfl headNoticeSent_stage s
  | detachedNoticeSent => exact event_leavesStage_of_kept rfl detachedSent_stage s
  | lineOperationStart => exact event_leavesStage_of_kept rfl givePort_stage s
  | lineDone data => exact event_leavesStage_of_kept rfl (lineEnd_stage (.done data)) s
  | lineBusFault => exact event_leavesStage_of_kept rfl (lineEnd_stage .fault) s
  | detachedLineEnd result => exact event_leavesStage_of_kept rfl (detachedEnd_stage result) s
  | grantReady g => exact event_leavesStage_of_kept rfl (testReady_stage g) s
  | drainEnd => exact event_leavesStage_of_kept rfl drainTest_stage s

/-- Settles O11: a write outside reset is an event that sets its word, which a read shows; every other command's outcome
has the staging words that it had before, or 0 after a reset. -/
theorem stagingWordsHoldWhatIsWritten : Obligations.StagingWordsHoldWhatIsWritten := by
  refine ⟨fun i v s hreset => ⟨?_, ?_⟩, fun c s hwf hc => exec_leavesStage s hwf hc⟩
  · rw [exec_stageWrite, event_running hreset, stageWrite]
  · have hread := readWindow_stage (s := { s with stage := s.stage.set i.val v i.isLt }) hreset i
    exact hread.trans (Vector.getElem_set_self _)

end Sys2Proof.Machine
end


section
/-! PROOFS. What a step of the part is made of. Every command but a reset is a chain of acts, each one change of the
state under the conditions that the rules set for it; each invariant is then proved once for each kind of act. -/

namespace Sys2Proof.Machine

/-! ### Acts -/

/-- How an act bears on the transmitter, which is to have nothing to send while it is free and the link is UP (R134). -/
inductive Effect where
  /-- The act gives a free transmitter nothing to send. -/
  | plain
  /-- The act may leave a free transmitter with something to send. -/
  | queues
  /-- The transmitter chooses. -/
  | transmits

/-- Whether the transmitter is known to be settled after an act, from whether it was before. -/
def Effect.settles : Effect → Bool → Bool
  | .plain, b => b
  | .queues, _ => false
  | .transmits, _ => true

/-- One act of the part: a change from one state to another, with the conditions under which the part makes it. -/
inductive Act : Effect → State → State → Prop where
  -- the register window, the tick phase and the receiver
  | registers (s : State) (enables : Enables) (alerts : Alerts) (stage : Record) :
      Act .plain s { s with enables := enables, alerts := alerts, stage := stage }
  | phaseRestarts (s : State) : Act .plain s { s with tickPhase := 0 }
  | receptionEnds (s : State) : Act .plain s { s with receiving := false }
  -- the link
  | trains (s : State) (hv : s.selfValid = true) (hl : s.link = .down) :
      Act .plain s { s with linkEnable := true, link := .training, trainingTime := 0 }
  | enables (s : State) (hv : s.selfValid = true) (he : s.linkEnable = false) (hl : s.link ≠ .down) :
      Act .plain s { s with linkEnable := true }
  | disables (s : State) (hl : s.link ≠ .up) : Act .plain s { s with linkEnable := false, link := .down }
  | trainingRestarts (s : State) (hl : s.link = .training) : Act .plain s { s with trainingTime := 0 }
  | goesDown (s : State) (hl : s.link = .up) : Act .plain s (linkLeavesUp .down { s with linkEnable := false })
  | losesSync (s : State) (hl : s.link = .up) : Act .plain s { linkLeavesUp .training s with trainingTime := 0 }
  | entersUp (s : State) (hl : s.link = .training) :
      Act .queues s
        { s with
          link := .up, trainingTime := Config.trainingPeriod, alerts := { s.alerts with linkChange := true } }
  -- the transmitter
  | transmits (s : State) : Act .transmits s (txTake s)
  | offers (s : State) (sl : SlotNum) (hl : s.link = .up) (hf : (s.slot sl).frame = .none) :
      Act .queues s (offerFrame sl s)
  | replies (s : State) (r : Reply) (hl : s.link = .up) (hc : s.immCount < Config.immediateLimit) :
      Act .queues s
        { s with replyQ := s.replyQ ++ [{ origin := .immediate, frame := r }], immCount := s.immCount + 1 }
  | replySent (s : State) (f : Reply) (rest : List QueuedReply) (ht : s.tx = .reply)
      (hq : s.replyQ = { origin := .immediate, frame := f } :: rest) :
      Act .queues s { s with tx := .free, replyQ := rest, immCount := s.immCount - 1 }
  | contextReplySent (s : State) (c : CtxNum) (f : Reply) (rest : List QueuedReply) (ht : s.tx = .reply)
      (hq : s.replyQ = { origin := .context c, frame := f } :: rest) :
      Act .queues s { s with tx := .free, replyQ := rest }
  | noticeSent (s : State) (sl : SlotNum) (f : NoticeFrame) (ht : s.tx = .notice (some sl) f) :
      Act .queues s { s.setSlot sl { s.slot sl with frame := .none } with tx := .free }
  | detachedSent (s : State) (f : NoticeFrame) (ht : s.tx = .notice none f) : Act .queues s { s with tx := .free }
  -- the notice queues
  | recounts (s : State) (sl : SlotNum) (g : GrantNum) (rest : List GrantNum) (n : Notice) (tries ticks : Nat)
      (hq : (s.slot sl).queue = g :: rest) (hn : s.headNotice sl = some n) (ho : n.isOpen = true) :
      Act .plain s (setNotice g (.awaitAck tries ticks) s)
  | leavesQueue (s : State) (sl : SlotNum) (outcome : Notice) (ho : outcome.finished = true) :
      Act .plain s (leaveQueue sl outcome s)
  | abandons (s : State) (sl : SlotNum) (r : Station) (hr : (s.slot sl).record = some r) :
      Act .plain s ((s.openNotices r.number).foldl (fun s g => setNotice g .abandoned s) (abandonQueue sl s))
  -- the grants
  | closes (s : State) (cause : Cause) (g : GrantNum) : Act .plain s (closeGrant cause g s)
  | countsDown (s : State) : Act .plain s (closeAll .expired (countDownAll s).runOut (countDownAll s))
  | tested (s : State) (g : GrantNum) : Act .plain s (testReady g s)
  | countsInFlight (s : State) (g : GrantNum) (n : Nat) : Act .plain s (s.setGrant g { s.grant g with inFlight := n })
  | renews (s : State) (g : GrantNum) (t : Terms) (n : Nat) (hb : (s.grant g).body = .live t)
      (hn : t.remaining = some n) :
      Act .plain s
        (s.setBody g
          (.live
            { t with
              remaining := some (min (n + t.renewAmount.getD 0) Config.maxLifetime), credits := t.credits - 1 }))
  | amends (s : State) (f : AmendFields) (g : GrantNum) (t : Terms) (hb : (s.grant g).body = .live t)
      (hq : s.backlog = []) (hf : amendBadField f t = false)
      (hw : ¬ (f.lengthSet = true ∧ s.memTop < (amendedTerms f t).windowEnd))
      (hc : (if widens t (amendedTerms f t) then s.firstConflict (some g) (amendedTerms f t) else none) = none) :
      Act .plain s (s.setBody g (.live (amendedTerms f t)))
  | issues (s : State) (f : IssueFields) (rights : Rights) (g : GrantNum) (rest : List GrantNum)
      (hf : issueBadField f = false) (hw : ¬ s.memTop < (issueTerms f rights).windowEnd)
      (hh : issueHolderRefusal s (issueTerms f rights).holder = none)
      (hc : s.firstConflict none (issueTerms f rights) = none) (hl : s.freeList = g :: rest) (hq : s.backlog = []) :
      Act .plain s (allocate g rest (issueTerms f rights) s)
  -- the stations
  | changesRecord (s : State) (sl : SlotNum) (f : Station → Station)
      (hf : ∀ r, (f r).number = r.number ∧ (f r).held = r.held ∧ (f r).restartWaiting = r.restartWaiting) :
      Act .plain s (s.modifyRecord sl f)
  | creates (s : State) (sl : SlotNum) (r : Station) (hv : (s.slot sl).record = none)
      (hn : s.findSlot r.number = none) (hh : r.held = 0) : Act .plain s (createStation sl r s)
  | admits (s : State) (sl : SlotNum) (r : Station) (hv : (s.slot sl).record = none)
      (hn : s.findSlot r.number = none) (hh : r.held = 0) :
      Act .plain s (handAdmitted sl r.number (createStation sl r s))
  | restarts (s : State) (sl : SlotNum) (x y : Station) (epoch : BitVec 16) (swept : Nat)
      (hr : (s.slot sl).record = some y) (hw : y.restartWaiting = x.restartWaiting) :
      Act .plain s (handRestarted sl x epoch swept s)
  | forgets (s : State) (sl : SlotNum) (r : Station) (hr : (s.slot sl).record = some r) (hh : r.held = 0)
      (hq : s.backlog = []) : Act .plain s (s.setSlot sl { s.slot sl with record := none })
  -- the contexts and the node-bus port
  | port (s : State) (port : Port) (last : CtxNum) : Act .plain s { s with port := port, lastServed := last }
  | changesContext (s : State) (c : CtxNum) (x : Ctx) (hx : x.state = (s.ctx c).state) : Act .plain s (s.setCtx c x)
  | binds (s : State) (c : CtxNum) (x : Ctx) (hh : s.hold = .running) (hx : x.state ≠ .replyWait) :
      Act .plain s (s.setCtx c x)
  | idles (s : State) (c : CtxNum) : Act .plain s (drainTest (s.enter c .idle))
  | queuesReply (s : State) (c : CtxNum) (f : Reply) (hl : s.link = .up) (hm : (s.ctx c).inMemoryPhase = true) :
      Act .queues s { s.enter c .replyWait with replyQ := s.replyQ ++ [{ origin := .context c, frame := f }] }
  -- the command FIFO, the completion queue, the settings and the hold
  | fifoJoins (s : State) (r : Record) (h : s.fifo.length < Config.fifoCapacity) :
      Act .plain s { s with fifo := s.fifo ++ [r] }
  | fifoLeaves (s : State) (r : Record) (rest : List Record) (h : s.fifo = r :: rest) :
      Act .plain s { s with fifo := rest }
  | reports (s : State) (c : Completion) (h : s.slotFree = true) : Act .plain s (placeRecord c s)
  | placesBacklog (s : State) : Act .plain s (placeBacklogHead s)
  | setsLimits (s : State) (memTop : Nat) (policy : Policy) (quota : Nat)
      (hm : memTop = s.memTop ∨ (s.highestEnd ≤ memTop ∧ memTop ≤ Config.lineLimit))
      (hq : quota = s.defaultQuota ∨ quota ≤ Config.maxQuota) :
      Act .plain s { s with memTop := memTop, policy := policy, defaultQuota := quota }
  | setsTiming (s : State) (period : TickPeriod) (interval tries : Nat)
      (hi : interval = s.noticeInterval ∨ (1 ≤ interval ∧ interval ≤ 15))
      (ht : tries = s.noticeTries ∨ (1 ≤ tries ∧ tries ≤ 7)) :
      Act .plain s
        { s with
          tickPeriod := period
          noticeInterval := interval
          noticeTries := tries
          tickPhase := if period = s.tickPeriod then s.tickPhase else 0 }
  | holds (s : State) (freeze : Bool) (hq : s.backlog = []) :
      Act .plain s { s with hold := if s.allIdle then .held else .draining, freeze := freeze }
  | resumes (s : State) (hq : s.backlog = []) : Act .plain s { s with hold := .running, freeze := false }
  | drains (s : State) : Act .plain s (drainTest s)

/-- A chain of acts. The two flags say whether the transmitter is known to be settled before and after. -/
inductive Run : Bool → State → Bool → State → Prop where
  | refl (a : Bool) (s : State) : Run a s a s
  | step {a b : Bool} {e : Effect} {s t u : State} (h : Run a s b t) (hact : Act e t u) : Run a s (e.settles b) u

/-- The part goes from `s` to `t` by acts, and the transmitter stays settled if it was. -/
def Settles (s t : State) : Prop := Run true s true t

/-- The part goes from `s` to `t` by acts. -/
def Acts (s t : State) : Prop := ∃ b, Run true s b t

theorem Run.trans {a b d : Bool} {s t u : State} (h : Run a s b t) (h' : Run b t d u) : Run a s d u := by
  induction h' with
  | refl => exact h
  | step _ hact ih => exact .step (ih h) hact

/-- What every act keeps, a chain keeps. -/
theorem Run.keeps {P : State → Prop} (hact : ∀ {e s t}, Act e s t → P s → P t) {a b : Bool} {s t : State}
    (h : Run a s b t) (hs : P s) : P t := by
  induction h with
  | refl => exact hs
  | step _ h ih => exact hact h (ih hs)

theorem Settles.refl (s : State) : Settles s s := Run.refl true s

theorem Settles.of_eq {s t : State} (h : t = s) : Settles s t := h ▸ Settles.refl s

theorem Settles.trans {s t u : State} (h : Settles s t) (h' : Settles t u) : Settles s u := Run.trans h h'

theorem Settles.acts {s t : State} (h : Settles s t) : Acts s t := ⟨true, h⟩

/-- A plain act leaves the transmitter settled. -/
theorem Act.settles {s t : State} (h : Act .plain s t) : Settles s t := .step (.refl true s) h

theorem Act.acts {e : Effect} {s t : State} (h : Act e s t) : Acts s t := ⟨_, .step (.refl true s) h⟩

/-- The acts of a chain can be done whatever is known of the transmitter before. -/
theorem Run.from_any {a b : Bool} {s t : State} (h : Run a s b t) (a' : Bool) : ∃ d, Run a' s d t := by
  induction h with
  | refl => exact ⟨a', .refl a' _⟩
  | step _ hact ih =>
    obtain ⟨d, hd⟩ := ih
    exact ⟨_, .step hd hact⟩

theorem Acts.trans_settles {s t u : State} (h : Acts s t) (h' : Settles t u) : Acts s u := by
  obtain ⟨b, hb⟩ := h
  obtain ⟨d, hd⟩ := Run.from_any h' b
  exact ⟨d, hb.trans hd⟩

theorem Settles.trans_acts {s t u : State} (h : Settles s t) (h' : Acts t u) : Acts s u := by
  obtain ⟨b, hb⟩ := h'
  exact ⟨b, Run.trans h hb⟩

theorem Acts.act {e : Effect} {s t u : State} (h : Acts s t) (h' : Act e t u) : Acts s u := by
  obtain ⟨b, hb⟩ := h
  exact ⟨_, .step hb h'⟩

theorem Settles.act {s t u : State} (h : Settles s t) (h' : Act .plain t u) : Settles s u := .step h h'

/-- The transmitter's choice settles it, whatever came before. -/
theorem Acts.txTake {s t : State} (h : Acts s t) : Settles s (txTake t) := by
  obtain ⟨b, hb⟩ := h
  exact .step hb (.transmits t)

end Sys2Proof.Machine
end


section
/-! PROOFS. The operations of the part as chains of acts: the requests and the other arrivals, the commands, the ticks,
the transmitter's completions and the node bus. -/

namespace Sys2Proof.Machine

/-! ### Acts in turn -/

/-- Acts in turn over a list. -/
theorem foldl_settles {α : Type} {f : State → α → State} (hf : ∀ s a, Settles s (f s a)) (l : List α) (s : State) :
    Settles s (l.foldl f s) := by
  induction l generalizing s with
  | nil => exact .refl s
  | cons a l ih => exact (hf s a).trans (ih (f s a))

/-- Acts in turn for every slot. -/
theorem forSlots_settles {f : SlotNum → State → State} (hf : ∀ sl s, Settles s (f sl s)) (s : State) :
    Settles s (forSlots f s) :=
  foldl_settles (fun s sl => hf sl s) _ s

/-- Acts in turn for every slot, whatever they leave the transmitter to send. -/
theorem forSlots_acts {f : SlotNum → State → State} {P : State → Prop} (hP : ∀ sl s, P s → P (f sl s))
    (hf : ∀ sl s, P s → f sl s = s ∨ ∃ e, Act e s (f sl s)) {s t : State} (h : Acts s t) (ht : P t) :
    Acts s (forSlots f t) := by
  refine (forSlots_induction (P := fun t => P t ∧ Acts s t) (fun sl t ht => ⟨hP sl t ht.1, ?_⟩) ⟨ht, h⟩).2
  obtain heq | ⟨e, hact⟩ := hf sl t ht.1
  · rw [heq]; exact ht.2
  · exact ht.2.act hact

/-! ### Hand-over and closing -/

theorem testReady_settles (g : GrantNum) (s : State) : Settles s (testReady g s) := (Act.tested s g).settles

theorem testReadyAll_settles (gs : List GrantNum) (s : State) : Settles s (testReadyAll gs s) :=
  foldl_settles (fun s g => testReady_settles g s) gs s

theorem closeGrant_settles (cause : Cause) (g : GrantNum) (s : State) : Settles s (closeGrant cause g s) :=
  (Act.closes s cause g).settles

theorem closeAll_settles (cause : Cause) (gs : List GrantNum) (s : State) : Settles s (closeAll cause gs s) :=
  foldl_settles (fun s g => closeGrant_settles cause g s) gs s

theorem modifyRecord_settles {f : Station → Station}
    (hf : ∀ r, (f r).number = r.number ∧ (f r).held = r.held ∧ (f r).restartWaiting = r.restartWaiting) (sl : SlotNum)
    (s : State) : Settles s (s.modifyRecord sl f) :=
  (Act.changesRecord s sl f hf).settles

/-- The frame of a new head is offered, or nothing happens. -/
theorem offerNewHead_act (sl : SlotNum) (s : State) : offerNewHead sl s = s ∨ ∃ e, Act e s (offerNewHead sl s) := by
  unfold offerNewHead
  split
  · next h => exact .inr ⟨_, .offers s sl h.1 h.2.1⟩
  · exact .inl rfl

/-- A resend is offered, or nothing happens. -/
theorem resendHead_act (sl : SlotNum) (s : State) : resendHead sl s = s ∨ ∃ e, Act e s (resendHead sl s) := by
  unfold resendHead
  split
  · next h =>
    have hexp := h.1
    simp only [State.intervalExpired, Bool.and_eq_true, decide_eq_true_eq] at hexp
    exact .inr ⟨_, .offers s sl hexp.1.1 hexp.1.2⟩
  · exact .inl rfl

/-- A head is offered again, or nothing happens. -/
theorem reofferHead_act (sl : SlotNum) {s : State} (hl : s.link = .up) :
    reofferHead sl s = s ∨ ∃ e, Act e s (reofferHead sl s) := by
  unfold reofferHead
  split
  · split
    · next hf => exact .inr ⟨_, .offers s sl hl hf⟩
    · exact .inl rfl
  · split
    · next hf => exact .inr ⟨_, .offers s sl hl hf.1⟩
    · exact .inl rfl
  · exact .inl rfl

theorem Acts.of_act_or_eq {s t u : State} (h : Acts s t) (h' : u = t ∨ ∃ e, Act e t u) : Acts s u := by
  obtain rfl | ⟨e, hact⟩ := h'
  · exact h
  · exact h.act hact

/-- What leaves the link state and LINK_CHANGE leaves the link state. -/
theorem link_of_linkAlert {s t : State} (h : t.linkAlert = s.linkAlert) : t.link = s.link := congrArg Prod.fst h

/-! ### Replies -/

theorem immediate_settles (r : Reply) {s : State} (hl : s.link = .up) : Settles s (immediate r s) := by
  unfold immediate
  split
  · next h => exact (Act.replies s r hl h).acts.txTake
  · exact .refl s

theorem answer_settles (r : Request) (status : ReplyStatus) (value : Word) (replayed : Bool) {s : State}
    (hl : s.link = .up) : Settles s (answer r status value replayed s) :=
  immediate_settles _ hl

theorem definitive_settles (sl : SlotNum) (r : Request) (status : ReplyStatus) (value : Word) (replayed : Bool)
    {s : State} (hl : s.link = .up) : Settles s (definitive sl r status value replayed s) :=
  (modifyRecord_settles (by exact fun _ => ⟨rfl, rfl, rfl⟩) sl s).trans (answer_settles r status value replayed hl)

/-! ### Requests -/

theorem startLine_settles (c : CtxNum) (s : State) : Settles s (startLine c s) :=
  (Act.changesContext s c { s.ctx c with issued := (s.ctx c).issued + 1 } rfl).settles.act (.port _ _ _)

theorem givePort_settles (s : State) : Settles s (givePort s) := by
  unfold givePort
  split
  · exact startLine_settles _ s
  · exact .refl s

theorem bind_settles (c : CtxNum) (sl : SlotNum) (r : Request) (g : GrantNum) (t : Terms) (replayed : Bool) {s : State}
    (hh : s.hold = .running) : Settles s (bind c sl r g t replayed s) := by
  have hbound : (boundContext (s.ctx c) sl r g t replayed).state ≠ .replyWait := by
    simp only [boundContext]
    split <;> simp
  unfold bind
  exact (((Act.binds s c _ hh hbound).settles.act (.countsInFlight _ g _)).trans
    (modifyRecord_settles (by exact fun _ => ⟨rfl, rfl, rfl⟩) sl _)).trans (givePort_settles _)

theorem transferAction_settles (sl : SlotNum) (r : Request) (replayed : Bool) (g : GrantNum) (t : Terms) {s : State}
    (hl : s.link = .up) (hh : s.hold = .running) : Settles s (transferAction sl r replayed g t s) := by
  unfold transferAction
  split
  · exact definitive_settles _ _ _ _ _ hl
  · split
    · exact answer_settles _ _ _ _ hl
    · exact bind_settles _ _ _ _ _ _ hh

theorem renewAction_settles (sl : SlotNum) (r : Request) (replayed : Bool) (g : GrantNum) (t : Terms) {s : State}
    (hl : s.link = .up) (hb : (s.grant g).body = .live t) : Settles s (renewAction sl r replayed g t s) := by
  unfold renewAction
  split
  · exact definitive_settles _ _ _ _ _ hl
  · next n hn =>
    split
    · exact definitive_settles _ _ _ _ _ hl
    · exact (Act.renews s g t n hb hn).settles.trans (definitive_settles _ _ _ _ _ hl)

theorem closeGrant_link (cause : Cause) (g : GrantNum) (s : State) : (closeGrant cause g s).link = s.link :=
  link_of_linkAlert (closeGrant_linkAlert cause g s)

theorem testReady_link (g : GrantNum) (s : State) : (testReady g s).link = s.link :=
  link_of_linkAlert (testReady_linkAlert g s)

theorem returnAction_settles (sl : SlotNum) (r : Request) (replayed : Bool) (g : GrantNum) {s : State}
    (hl : s.link = .up) : Settles s (returnAction sl r replayed g s) :=
  ((closeGrant_settles .returned g s).trans (testReady_settles g _)).trans
    (definitive_settles _ _ _ _ _ ((testReady_link g _).trans ((closeGrant_link .returned g s).trans hl)))

theorem kindAction_settles (sl : SlotNum) (r : Request) (replayed : Bool) (g : GrantNum) (t : Terms) {s : State}
    (hl : s.link = .up) (hh : s.hold = .running) (hb : (s.grant g).body = .live t) :
    Settles s (kindAction sl r replayed g t s) := by
  unfold kindAction
  cases r.kind with
  | read | write => exact transferAction_settles _ _ _ _ _ hl hh
  | renew => exact renewAction_settles _ _ _ _ _ hl hb
  | returnGrant => exact returnAction_settles _ _ _ _ hl
  | probe => exact definitive_settles _ _ _ _ _ hl

/-- A reference that resolves to a LIVE entry names one, with the generation given (R8). -/
theorem State.resolve_live {s : State} {grant : BitVec 16} {gen : BitVec 8} {g : GrantNum} {t : Terms}
    (h : s.resolve grant gen = .live g t) :
    grant.toNat = g.val ∧ (s.grant g).gen = gen ∧ (s.grant g).body = .live t := by
  unfold State.resolve at h
  split at h
  · simp only [] at h
    split at h
    · next hg =>
      split at h
      · cases h
      · cases h
      · next hb => cases h; exact ⟨rfl, hg, hb⟩
    · cases h
  · cases h

theorem resolveRequest_settles (sl : SlotNum) (r : Request) (replayed : Bool) {s : State} (hl : s.link = .up)
    (hh : s.hold = .running) : Settles s (resolveRequest sl r replayed s) := by
  unfold resolveRequest
  cases hres : s.resolve r.grant r.gen with
  | badRef | stale | closed => exact definitive_settles _ _ _ _ _ hl
  | live g t =>
    simp only []
    split
    · obtain ⟨-, -, hb⟩ := State.resolve_live hres
      exact kindAction_settles _ _ _ _ _ hl hh hb
    · exact definitive_settles _ _ _ _ _ hl

theorem sequenceRequest_settles (sl : SlotNum) (x : Station) (last : Byte) (r : Request) {s : State}
    (hl : s.link = .up) (hh : s.hold = .running) : Settles s (sequenceRequest sl x last r s) := by
  unfold sequenceRequest
  cases sequenceRule x last r.kind r.seq with
  | discard => exact .refl s
  | outOfOrder | busy | replay => exact answer_settles _ _ _ _ hl
  | go replayed => exact resolveRequest_settles _ _ _ hl hh

theorem takeRequest_settles (r : Request) {s : State} (hl : s.link = .up) : Settles s (takeRequest r s) := by
  unfold takeRequest
  split
  · exact answer_settles _ _ _ _ hl
  · split
    · exact answer_settles _ _ _ _ hl
    · split
      · exact answer_settles _ _ _ _ hl
      · split
        · exact answer_settles _ _ _ _ hl
        · next hh =>
          split
          · exact answer_settles _ _ _ _ hl
          · exact sequenceRequest_settles _ _ _ _ hl (of_not_not hh)

/-! ### HELLO -/

theorem orphanPending_settles (p : Option CtxNum) (s : State) : Settles s (orphanPending p s) := by
  unfold orphanPending
  split
  · exact .refl s
  · next c =>
    split
    · exact (Act.changesContext s c { s.ctx c with orphaned := true } rfl).settles
    · exact .refl s

theorem resynchronise_settles (sl : SlotNum) (x : Station) (epoch : BitVec 16) (start : Byte) (s : State) :
    Settles s (resynchronise sl x epoch start s) :=
  (orphanPending_settles x.pending s).trans (modifyRecord_settles (by exact fun _ => ⟨rfl, rfl, rfl⟩) sl _)

/-- A property that follows from one view of the state is kept where the view is. -/
theorem foldl_view {α β : Type} {f : State → α → State} {v : State → β} (hf : ∀ s a, v (f s a) = v s) (l : List α)
    (s : State) : v (l.foldl f s) = v s := by
  induction l generalizing s with
  | nil => rfl
  | cons a l ih => exact (ih (f s a)).trans (hf s a)

theorem setSlot_record {s : State} {sl : SlotNum} {x : Slot} (hx : x.record = (s.slot sl).record) (k : SlotNum) :
    ((s.setSlot sl x).slot k).record = (s.slot k).record := by
  rw [State.slot_setSlot]
  split
  · next h => rw [← h]; exact hx
  · rfl

theorem enqueueNotice_record (g : GrantNum) (h : Holder) (s : State) (k : SlotNum) :
    ((enqueueNotice g h s).slot k).record = (s.slot k).record := by
  unfold enqueueNotice
  split
  · rfl
  · split
    · next sl _ => exact setSlot_record (x := { s.slot sl with queue := (s.slot sl).queue ++ [g] }) rfl k
    · rfl

/-- The closing act changes no station record (R32). -/
theorem closeGrant_record (cause : Cause) (g : GrantNum) (s : State) (k : SlotNum) :
    ((closeGrant cause g s).slot k).record = (s.slot k).record := by
  unfold closeGrant
  split
  · split
    · exact enqueueNotice_record ..
    · rfl
  · rfl
  · rfl

theorem closeAll_record (cause : Cause) (gs : List GrantNum) (s : State) (k : SlotNum) :
    ((closeAll cause gs s).slot k).record = (s.slot k).record :=
  foldl_view (v := fun s => (s.slot k).record) (fun s g => closeGrant_record cause g s k) gs s

theorem withdrawFrame_record (sl : SlotNum) (s : State) (k : SlotNum) :
    ((withdrawFrame sl s).slot k).record = (s.slot k).record := by
  unfold withdrawFrame
  split
  · rfl
  · exact setSlot_record (x := { s.slot sl with frame := .none }) rfl k
  · exact setSlot_record (x := { s.slot sl with frame := .none }) rfl k

theorem abandonQueue_record (sl : SlotNum) (s : State) (k : SlotNum) :
    ((abandonQueue sl s).slot k).record = (s.slot k).record := by
  rw [← withdrawFrame_record sl s k]
  exact setSlot_record (x := { (withdrawFrame sl s).slot sl with queue := [] }) rfl k

/-- A notice state's change leaves the station slots. -/
theorem setNotice_slots (g : GrantNum) (n : Notice) (s : State) : (setNotice g n s).slots = s.slots := by
  obtain ⟨_, h⟩ := setNotice_only g n s
  rw [h]

theorem setNotice_slot (g : GrantNum) (n : Notice) (s : State) (k : SlotNum) : (setNotice g n s).slot k = s.slot k := by
  simp only [State.slot, setNotice_slots]

/-! The open notices, which a restart abandons, are the same after its closings, which owe no notice (R33, R53). -/

/-- The model's test for a notice is the rule's (R33). -/
theorem noticeDue_eq_decide (cause : Cause) (t : Terms) :
    noticeDue cause t =
      decide ((cause = .revoked ∨ cause = .swept ∨ cause = .expired) ∧ t.notify = true ∧ t.holder ≠ .shared) := by
  cases cause <;> cases hh : t.holder <;> cases hn : t.notify <;> simp [noticeDue, hh, hn, Holder.isShared]

/-- A LIVE record's closing owes a notice as the model tests it. -/
theorem Grant.owes_live {x : Grant} {t : Terms} (hb : x.body = .live t) (cause : Cause) :
    x.owes cause = noticeDue cause t := by
  rw [noticeDue_eq_decide, Grant.owes, hb]

/-- A LIVE record after the closing act. -/
theorem Grant.closed_live {x : Grant} {t : Terms} (hb : x.body = .live t) (cause : Cause) :
    x.closed cause =
      { x with
        body := .closing t
          { cause := cause, notice := if noticeDue cause t then .queued else .notDue, retireWait := false } } := by
  simp only [Grant.closed, hb, Grant.owes_live hb]

/-- The closing act leaves a record that is not LIVE. -/
theorem Grant.closed_not_live {x : Grant} (hb : x.body.isLive = false) (cause : Cause) : x.closed cause = x := by
  unfold Grant.closed
  split
  · next hl => rw [hl] at hb; cases hb
  · rfl
  · rfl

theorem enqueueNotice_grant (g : GrantNum) (h : Holder) (s : State) (k : GrantNum) :
    (enqueueNotice g h s).grant k = s.grant k := by
  obtain ⟨_, he⟩ := enqueueNotice_only g h s
  rw [he]; rfl

/-- The closing act on one grant, as a change of its record (R32). -/
theorem closeGrant_grant (cause : Cause) (g k : GrantNum) (s : State) :
    (closeGrant cause g s).grant k = if g = k then (s.grant k).closed cause else s.grant k := by
  have hbody : ∀ b, (s.setBody g b).grant k = if g = k then { s.grant k with body := b } else s.grant k := fun b => by
    rw [State.grant_setBody]
    split
    · next h => rw [h]
    · rfl
  cases hb : (s.grant g).body with
  | free | closing =>
    have hsame : (s.grant g).closed cause = s.grant g := Grant.closed_not_live (by rw [hb]; rfl) cause
    simp only [closeGrant, hb]
    split
    · next h => rw [← h, hsame]
    · rfl
  | live t =>
    by_cases h : g = k
    · subst h
      rw [if_pos rfl, Grant.closed_live hb]
      cases hd : noticeDue cause t
      · rw [closeGrant_not_due hb hd, hbody, if_pos rfl]; rfl
      · rw [closeGrant_due hb hd, enqueueNotice_grant, hbody, if_pos rfl]; rfl
    · cases hd : noticeDue cause t
      · rw [closeGrant_not_due hb hd, hbody, if_neg h, if_neg h]
      · rw [closeGrant_due hb hd, enqueueNotice_grant, hbody, if_neg h, if_neg h]

/-- A closing act again leaves what the first left. -/
theorem Grant.closed_closed (x : Grant) (cause : Cause) : (x.closed cause).closed cause = x.closed cause := by
  refine Grant.closed_not_live ?_ cause
  unfold Grant.closed
  split
  · rfl
  · next h => rw [h]; rfl
  · next h => rw [h]; rfl

/-- Closing acts in turn: each record of the list is closed, and every other one stays. -/
theorem closeAll_grant (cause : Cause) (gs : List GrantNum) (s : State) (k : GrantNum) :
    (closeAll cause gs s).grant k = if k ∈ gs then (s.grant k).closed cause else s.grant k := by
  induction gs generalizing s with
  | nil => rfl
  | cons g gs ih =>
    refine (ih (closeGrant cause g s)).trans ?_
    rw [closeGrant_grant]
    by_cases hg : g = k
    · subst hg
      by_cases hk : g ∈ gs <;> simp [hk, Grant.closed_closed]
    · simp [hg, Ne.symm hg]

/-- A closing for a restart opens no notice. -/
theorem openNotices_closeGrant_restarted (n : StationNum) (g : GrantNum) (s : State) :
    (closeGrant .restarted g s).openNotices n = s.openNotices n := by
  unfold State.openNotices
  refine List.filter_congr fun k _ => ?_
  rw [closeGrant_grant]
  by_cases hg : g = k
  · rw [if_pos hg]
    cases hb : (s.grant k).body with
    | free | closing => simp only [Grant.closed_not_live (show (s.grant k).body.isLive = false by rw [hb]; rfl), hb]
    | live t => simp [Grant.closed_live hb, noticeDue, Notice.isOpen, Notice.finished]
  · rw [if_neg hg]

theorem openNotices_closeAll_restarted (n : StationNum) (gs : List GrantNum) (s : State) :
    (closeAll .restarted gs s).openNotices n = s.openNotices n :=
  foldl_view (v := fun s => s.openNotices n) (fun s g => openNotices_closeGrant_restarted n g s) gs s

/-- A record in its slot after a change. -/
theorem record_modifyRecord {s : State} {sl : SlotNum} {f : Station → Station} {r : Station}
    (h : (s.slot sl).record = some r) : ((s.modifyRecord sl f).slot sl).record = some (f r) := by
  rw [State.slot_modifyRecord_self, h]
  rfl

/-- A record whose session, where there is one, has another epoch (R53, step 4). -/
def Station.withEpoch (epoch : BitVec 16) (y : Station) : Station :=
  { y with session := y.session.map (fun e => { e with epoch := epoch }) }

/-- The record that a HELLO restarts stands in its slot, but for the fields that a resynchronisation sets. -/
theorem restartStation_settles {sl : SlotNum} {x y : Station} (epoch : BitVec 16) {s : State}
    (hr : (s.slot sl).record = some y) (hn : y.number = x.number) (hw : y.restartWaiting = x.restartWaiting) :
    Settles s (restartStation sl x epoch s) := by
  have hclosed := (closeAll_record .restarted (s.liveOf (.station x.number)) s sl).trans hr
  have habandons := Act.abandons _ sl y hclosed
  rw [hn, openNotices_closeAll_restarted] at habandons
  have hrecord : (((s.openNotices x.number).foldl (fun s g => setNotice g .abandoned s)
      (abandonQueue sl (closeAll .restarted (s.liveOf (.station x.number)) s))).slot sl).record = some y :=
    ((congrArg Slot.record
      (foldl_view (v := fun s => s.slot sl) (fun s g => setNotice_slot g .abandoned s sl) _ _)).trans
        (abandonQueue_record sl _ sl)).trans hclosed
  have hepoch := modifyRecord_settles (f := Station.withEpoch epoch) (by exact fun _ => ⟨rfl, rfl, rfl⟩) sl
    ((s.openNotices x.number).foldl (fun s g => setNotice g .abandoned s)
      (abandonQueue sl (closeAll .restarted (s.liveOf (.station x.number)) s)))
  have hrestarts := Act.restarts _ sl x (y.withEpoch epoch) epoch (s.liveOf (.station x.number)).length
    (record_modifyRecord (f := Station.withEpoch epoch) hrecord) hw
  exact ((((closeAll_settles .restarted _ s).act habandons).trans hepoch).act hrestarts).trans
    (testReadyAll_settles _ _)

theorem handleHello_settles {sl : SlotNum} {x y : Station} (src : StationNum) (seq : Byte) (epoch : BitVec 16)
    (start : Byte) {s : State} (hl : s.link = .up) (hr : (s.slot sl).record = some y) (hn : y.number = x.number)
    (hw : y.restartWaiting = x.restartWaiting) : Settles s (handleHello sl x src seq epoch start s) := by
  have hsynced := resynchronise_settles sl x epoch start s
  have hlink : (resynchronise sl x epoch start s).link = .up :=
    (link_of_linkAlert (resynchronise_linkAlert sl x epoch start s)).trans hl
  have horphan : ((orphanPending x.pending s).slot sl).record = some y := by
    rw [← hr]
    unfold orphanPending
    split
    · rfl
    · split <;> rfl
  unfold handleHello
  simp only []
  split
  · refine (hsynced.trans (restartStation_settles (y := { y with
      session := some { epoch := (y.session.map (fun e => e.epoch)).getD epoch, last := start }
      cache := none, pending := none }) epoch ?_ hn hw)).trans (immediate_settles _ ?_)
    · rw [resynchronise, State.slot_modifyRecord_self, horphan]
      rfl
    · exact (link_of_linkAlert (restartStation_linkAlert sl x epoch _)).trans hlink
  · exact hsynced.trans (immediate_settles _ hlink)

/-- A slot found for a station holds its record (R46). -/
theorem State.findSlot_some {s : State} {n : StationNum} {sl : SlotNum} (h : s.findSlot n = some sl) :
    ∃ r, (s.slot sl).record = some r ∧ r.number = n := by
  have hnames := List.find?_some h
  simp only [Slot.names] at hnames
  split at hnames
  · next r hr => exact ⟨r, hr, by simpa using hnames⟩
  · cases hnames

/-- The slot found VACANT holds no record (R45). -/
theorem State.vacantSlot_some {s : State} {sl : SlotNum} (h : s.vacantSlot = some sl) : (s.slot sl).record = none := by
  simpa using List.find?_some h

theorem handAdmitted_record (sl : SlotNum) (n : StationNum) (r : Station) (s : State)
    (hr : (s.slot sl).record = some r) :
    ∃ y, ((handAdmitted sl n s).slot sl).record = some y ∧ y.number = r.number ∧
      y.restartWaiting = r.restartWaiting := by
  unfold handAdmitted
  split
  · exact ⟨r, hr, rfl, rfl⟩
  · refine ⟨{ r with admittedWaiting := true }, ?_, rfl, rfl⟩
    rw [State.slot_joinBacklog_other, State.slot_modifyRecord_self, hr]
    rfl

theorem takeHello_settles (src : StationNum) (seq : Byte) (epoch : BitVec 16) (start : Byte) {s : State}
    (hl : s.link = .up) : Settles s (takeHello src seq epoch start s) := by
  unfold takeHello
  split
  · next hfind =>
    split
    · split
      · exact immediate_settles _ hl
      · next sl hvacant =>
        have hcreated : ((createStation sl (newStation false src s.defaultQuota) s).slot sl).record =
            some (newStation false src s.defaultQuota) := by
          rw [createStation, State.slot_setSlot_self]
        obtain ⟨y, hy, hn, hw⟩ := handAdmitted_record sl src _ _ hcreated
        refine (Act.admits s sl (newStation false src s.defaultQuota) (State.vacantSlot_some hvacant) hfind
          rfl).settles.trans (handleHello_settles src seq epoch start ?_ hy hn hw)
        exact (link_of_linkAlert (handAdmitted_linkAlert sl src _)).trans hl
    · exact immediate_settles _ hl
  · split
    · exact immediate_settles _ hl
    · next x hx =>
      split
      · exact immediate_settles _ hl
      · split
        · exact immediate_settles _ hl
        · exact handleHello_settles src seq epoch start hl hx rfl rfl

/-! ### NOTICE_ACK and arrivals -/

theorem takeNoticeAck_settles (src : StationNum) (seq : Byte) (grant : BitVec 16) (gen : Byte) {s : State}
    (hl : s.link = .up) : Settles s (takeNoticeAck src seq grant gen s) := by
  unfold takeNoticeAck
  split
  · exact immediate_settles _ hl
  · next sl _ =>
    split
    · exact .refl s
    · have hended : Acts s (leaveQueue sl .acked s) := (Act.leavesQueue s sl .acked rfl).acts
      exact ((hended.of_act_or_eq (offerNewHead_act sl _)).trans_settles (testReady_settles _ _)).txTake

theorem takeArrival_settles (a : Arrival) {s : State} (hl : s.link = .up) : Settles s (takeArrival a s) := by
  cases a with
  | hello src seq epoch start => exact takeHello_settles _ _ _ _ hl
  | request r => exact takeRequest_settles r hl
  | noticeAck src seq grant gen => exact takeNoticeAck_settles _ _ _ _ hl
  | unknown src seq kind =>
    simp only [takeArrival, takeUnknown]
    split
    · exact .refl s
    · exact immediate_settles _ hl

theorem arrive_settles (a : Arrival) (s : State) : Settles s (arrive a s) := by
  unfold arrive
  split
  · next hl =>
    simp only []
    split
    · exact (Act.receptionEnds s).settles.trans (takeArrival_settles a hl)
    · exact (Act.receptionEnds s).settles
  · exact .refl s

theorem receiveFrame_settles (bs : List Byte) (s : State) : Settles s (receiveFrame bs s) := by
  unfold receiveFrame
  split
  · next hl =>
    simp only []
    split
    · exact (Act.receptionEnds s).settles.trans (takeArrival_settles _ hl)
    · exact (Act.receptionEnds s).settles
  · exact .refl s

end Sys2Proof.Machine
end


section
/-! PROOFS. The commands, the ticks, the completions and the register writes as chains of acts, and what every step of
the part does: a chain of acts, a reset, a write to CQ_ACK or the end of a line operation. -/

namespace Sys2Proof.Machine

/-! ### The queues of the Command Unit while a command is executed -/

/-- The completion queue, the event backlog and the command FIFO: the execution of a command leaves them to its record
and its hand-overs. -/
def State.hostQueues (s : State) : List Completion × List Event × List Record := (s.cq, s.backlog, s.fifo)

theorem closeGrant_hostQueues (cause : Cause) (g : GrantNum) (s : State) :
    (closeGrant cause g s).hostQueues = s.hostQueues :=
  let ⟨_, _, h⟩ := closeGrant_only cause g s
  (congrArg State.hostQueues h).trans rfl

theorem closeAll_hostQueues (cause : Cause) (gs : List GrantNum) (s : State) :
    (closeAll cause gs s).hostQueues = s.hostQueues :=
  let ⟨_, _, h⟩ := closeAll_only cause gs s
  (congrArg State.hostQueues h).trans rfl

theorem offerNewHead_hostQueues (sl : SlotNum) (s : State) : (offerNewHead sl s).hostQueues = s.hostQueues :=
  let ⟨_, _, h⟩ := offerNewHead_only sl s
  (congrArg State.hostQueues h).trans rfl

theorem txTake_hostQueues (s : State) : (txTake s).hostQueues = s.hostQueues :=
  let ⟨_, _, _, h⟩ := txTake_only s
  (congrArg State.hostQueues h).trans rfl

theorem offerForHolder_hostQueues (h : Holder) (s : State) : (offerForHolder h s).hostQueues = s.hostQueues := by
  unfold offerForHolder
  split
  · rfl
  · split
    · exact (txTake_hostQueues _).trans (offerNewHead_hostQueues _ s)
    · rfl

theorem allocate_hostQueues (g : GrantNum) (rest : List GrantNum) (t : Terms) (s : State) :
    (allocate g rest t s).hostQueues = s.hostQueues :=
  let ⟨_, h⟩ := allocate_only g rest t s
  (congrArg State.hostQueues h).trans rfl

/-! ### What the execution of a command is

Each command is refused, which leaves the state, or carried out; a relation that holds of the state itself and of the
state of each carrying-out holds of every execution. -/

/-- The state that an execution leaves is reached by acts, with the queues of the Command Unit as they were. -/
def Carries (s t : State) : Prop := Settles s t ∧ t.hostQueues = s.hostQueues

theorem Carries.refl (s : State) : Carries s s := ⟨.refl s, rfl⟩

theorem Carries.of_eq {s t : State} (h : t = s) : Carries s t := h ▸ .refl s

theorem Carries.of_act {s t : State} (h : Act .plain s t) (hq : t.hostQueues = s.hostQueues) : Carries s t :=
  ⟨h.settles, hq⟩

theorem onLive_carries {s : State} {f : GrantNum → Terms → Executed} {grant : BitVec 16} {gen : BitVec 8}
    (hf : ∀ g t, (s.grant g).body = .live t → Carries s (f g t).state) : Carries s (onLive s grant gen f).state := by
  unfold onLive
  cases hres : s.resolve grant gen with
  | badRef | stale | closed => exact .refl s
  | live g t =>
    obtain ⟨-, -, hb⟩ := State.resolve_live hres
    exact hf g t hb

theorem executeIssue_carries (f : IssueFields) {s : State} (hq : s.backlog = []) :
    Carries s (executeIssue f s).state := by
  unfold executeIssue
  split
  · exact .refl s
  · next rights _ =>
    simp only []
    split
    · exact .refl s
    · next hf =>
      split
      · exact .refl s
      · next hw =>
        split
        · exact .refl s
        · next hh =>
          split
          · exact .refl s
          · next hc =>
            split
            · exact .refl s
            · next g rest hl =>
              exact .of_act (.issues s f rights g rest (Bool.eq_false_iff.2 hf) hw hh hc hl hq)
                (allocate_hostQueues ..)

theorem executeAmend_carries (f : AmendFields) {s : State} (hq : s.backlog = []) :
    Carries s (executeAmend f s).state := by
  refine onLive_carries fun g t hb => ?_
  simp only []
  split
  · exact .refl s
  · next hf =>
    split
    · exact .refl s
    · split
      · exact .refl s
      · next hw =>
        split
        · exact .refl s
        · next hc => exact .of_act (.amends s f g t hb hq (Bool.eq_false_iff.2 hf) hw hc) rfl

theorem offerForHolder_settles (h : Holder) (s : State) : Settles s (offerForHolder h s) := by
  unfold offerForHolder
  split
  · exact .refl s
  · split
    · exact ((Settles.refl s).acts.of_act_or_eq (offerNewHead_act _ s)).txTake
    · exact .refl s

theorem executeRevoke_carries (grant : BitVec 16) (gen : BitVec 8) (s : State) :
    Carries s (executeRevoke grant gen s).state :=
  onLive_carries fun g t _ =>
    ⟨(closeGrant_settles .revoked g s).trans (offerForHolder_settles t.holder _),
      (offerForHolder_hostQueues t.holder _).trans (closeGrant_hostQueues .revoked g s)⟩

theorem executeSweep_carries (station : StationNum) (shared : Bool) (s : State) :
    Carries s (executeSweep station shared s).state := by
  have hswept : ∀ gs, Carries s (offerForHolder (holderOf shared station) (closeAll .swept gs s)) := fun gs =>
    ⟨(closeAll_settles .swept gs s).trans (offerForHolder_settles _ _),
      (offerForHolder_hostQueues _ _).trans (closeAll_hostQueues .swept gs s)⟩
  unfold executeSweep
  split
  · exact hswept (s.liveOf (holderOf shared station))
  · exact .refl s

/-- What a change of station records leaves. -/
theorem changesRecord_carries {f : Station → Station}
    (hf : ∀ r, (f r).number = r.number ∧ (f r).held = r.held ∧ (f r).restartWaiting = r.restartWaiting) (sl : SlotNum)
    (s : State) : Carries s (s.modifyRecord sl f) :=
  .of_act (.changesRecord s sl f hf) rfl

theorem admitOrBar_carries {n : StationNum} {change : Station → Station} {created : Station}
    (hchange : ∀ r, (change r).number = r.number ∧ (change r).held = r.held ∧
      (change r).restartWaiting = r.restartWaiting)
    (hn : created.number = n) (hh : created.held = 0) (s : State) :
    Carries s (admitOrBar n change created s).state := by
  unfold admitOrBar
  split
  · exact changesRecord_carries hchange _ s
  · next hfind =>
    split
    · next sl hvacant =>
      exact .of_act (.creates s sl created (State.vacantSlot_some hvacant) (hn ▸ hfind) hh) rfl
    · exact .refl s

theorem executeAdmit_carries (n : StationNum) (quota : BitVec 16) (s : State) :
    Carries s (executeAdmit n quota s).state := by
  unfold executeAdmit
  split
  · exact .refl s
  · exact admitOrBar_carries (created := newStation false n quota.toNat) (by exact fun _ => ⟨rfl, rfl, rfl⟩) rfl rfl s

theorem executeBar_carries (n : StationNum) (s : State) : Carries s (executeBar n s).state := by
  unfold executeBar
  split
  · exact .refl s
  · exact admitOrBar_carries (created := newStation true n 0) (by exact fun _ => ⟨rfl, rfl, rfl⟩) rfl rfl s

theorem executeForget_carries (n : StationNum) {s : State} (hq : s.backlog = []) :
    Carries s (executeForget n s).state := by
  unfold executeForget
  split
  · split
    · exact .refl s
    · next sl _ =>
      split
      · exact .refl s
      · next r hr =>
        split
        · exact .refl s
        · next hheld => exact .of_act (.forgets s sl r hr (by omega) hq) rfl
  · exact .refl s

theorem executeSetLimits_carries (f : LimitsFields) (s : State) : Carries s (executeSetLimits f s).state := by
  simp only [executeSetLimits]
  split
  · exact .refl s
  · split
    · exact .refl s
    · next hrange =>
      split
      · exact .refl s
      · next hquota =>
        split
        · exact .refl s
        · next huse =>
          refine .of_act (.setsLimits s _ _ _ ?_ ?_) rfl
          · cases hk : f.keepMemTop
            · simp only [hk, Bool.not_false, Bool.true_and, decide_eq_true_eq, Nat.not_lt] at hrange huse
              exact .inr ⟨by simpa using huse, by simpa using hrange⟩
            · exact .inl (by simp)
          · cases hk : f.keepQuota
            · simp only [hk, Bool.not_false, Bool.true_and, decide_eq_true_eq, Nat.not_lt] at hquota
              exact .inr (by simpa using hquota)
            · exact .inl (by simp)

/-- A field of SET_TIMING that is given and not 0 is in the range of its width. -/
theorem timingField_range {keep : Bool} {n : Nat} (x : BitVec n) (old : Nat) (h : ¬ (!keep && x.toNat == 0) = true) :
    (if keep then old else x.toNat) = old ∨
      (1 ≤ (if keep then old else x.toNat) ∧ (if keep then old else x.toNat) ≤ 2 ^ n - 1) := by
  have := x.isLt
  cases keep
  · simp at h
    exact .inr ⟨by simp; omega, by simp; omega⟩
  · exact .inl rfl

theorem executeSetTiming_carries (f : TimingFields) (s : State) : Carries s (executeSetTiming f s).state := by
  simp only [executeSetTiming]
  split
  · exact .refl s
  · split
    · exact .refl s
    · next hi =>
      split
      · exact .refl s
      · next ht =>
        exact .of_act (.setsTiming s _ _ _ (timingField_range f.interval _ hi) (timingField_range f.tries _ ht)) rfl

theorem executeHold_carries (freeze : Bool) {s : State} (hq : s.backlog = []) :
    Carries s (executeHold freeze s).state := by
  unfold executeHold
  split
  · exact .of_act (.holds s freeze hq) rfl
  · exact .refl s
  · exact .refl s

theorem executeResume_carries {s : State} (hq : s.backlog = []) : Carries s (executeResume s).state := by
  unfold executeResume
  split
  · exact .refl s
  · exact .of_act (.resumes s hq) rfl
  · exact .of_act (.resumes s hq) rfl

/-- The execution of a command taken with the backlog empty (R141, R142). -/
theorem execute_carries (c : Command) {s : State} (hq : s.backlog = []) : Carries s (execute c s).state := by
  cases c with
  | issue f => exact executeIssue_carries f hq
  | amend f => exact executeAmend_carries f hq
  | revoke grant gen => exact executeRevoke_carries grant gen s
  | sweep station shared => exact executeSweep_carries station shared s
  | queryGrant grant part => exact .of_eq (executeQueryGrant_state grant part s)
  | queryLine line skip => exact .of_eq (executeQueryLine_state line skip s)
  | admitStation station quota => exact executeAdmit_carries station quota s
  | bar station => exact executeBar_carries station s
  | forget station => exact executeForget_carries station hq
  | queryStation station part => exact .of_eq (executeQueryStation_state station part s)
  | setLimits f => exact executeSetLimits_carries f s
  | setTiming f => exact executeSetTiming_carries f s
  | hold freeze => exact executeHold_carries freeze hq
  | resume => exact executeResume_carries hq
  | bad code => exact .refl s

/-- With the same queues a slot is free or not alike (R141). -/
theorem slotFree_of_hostQueues {s t : State} (h : t.hostQueues = s.hostQueues) : t.slotFree = s.slotFree := by
  simp only [State.hostQueues, Prod.mk.injEq] at h
  obtain ⟨hcq, hbacklog, -⟩ := h
  simp only [State.slotFree, hcq, hbacklog]

theorem runRecord_settles (r : Record) {s : State} (h : s.slotFree = true) : Settles s (runRecord r s) := by
  obtain ⟨hacts, hqueues⟩ := execute_carries (decodeCommand r) (s.slotFree_iff.1 h).1
  exact (hacts.act (.reports _ _ ((slotFree_of_hostQueues hqueues).trans h))).trans (testReadyAll_settles _ _)

theorem takeCommand_settles (s : State) : Settles s (takeCommand s) := by
  unfold takeCommand
  split
  · exact .refl s
  · next r rest hr =>
    split
    · next hfree => exact (Act.fifoLeaves s r rest hr).settles.trans (runRecord_settles r hfree)
    · exact .refl s

theorem takeCommands_settles (n : Nat) (s : State) : Settles s (takeCommands n s) := by
  induction n generalizing s with
  | zero => exact .refl s
  | succ n ih => exact (takeCommand_settles s).trans (ih (takeCommand s))

theorem submitRecord_settles (r : Record) (s : State) : Settles s (submitRecord r s) := by
  unfold submitRecord
  split
  · next h => exact (Act.fifoJoins s r h).settles.trans (takeCommands_settles _ _)
  · exact (Act.registers s s.enables { s.alerts with cmdOverrun := true } s.stage).settles

/-! ### Ticks -/

theorem expireAll_settles (s : State) : Settles s (expireAll s) :=
  (closeAll_settles .expired _ s).trans (testReadyAll_settles _ _)

theorem tickLifetimes_settles (s : State) : Settles s (tickLifetimes s) := by
  unfold tickLifetimes
  split
  · exact .refl s
  · exact (Act.countsDown s).settles.trans (testReadyAll_settles _ _)

theorem countInterval_settles (sl : SlotNum) (s : State) : Settles s (countInterval sl s) := by
  unfold countInterval
  split
  · split
    · next g rest tries ticks hq hn =>
      split
      · exact (Act.recounts s sl g rest _ tries (ticks + 1) hq hn rfl).settles
      · exact .refl s
    · exact .refl s
  · exact .refl s

theorem endUnacked_settles (sl : SlotNum) (s : State) : Settles s (endUnacked sl s) := by
  unfold endUnacked
  split
  · split
    · exact .refl s
    · exact (Act.leavesQueue s sl .unacked rfl).settles.trans (testReady_settles _ _)
  · exact .refl s

theorem tickNotices_settles (s : State) : Settles s (tickNotices s) :=
  (forSlots_settles countInterval_settles s).trans (forSlots_settles endUnacked_settles _)

theorem Acts.offerDue {s t : State} (h : Acts s t) (sl : SlotNum) : Acts s (offerDue sl t) :=
  (h.of_act_or_eq (offerNewHead_act sl t)).of_act_or_eq (resendHead_act sl _)

theorem tickEvent_settles (s : State) : Settles s (tickEvent s) := by
  have hcounted := (((Act.phaseRestarts s).settles.trans (tickLifetimes_settles _)).trans (tickNotices_settles _)).acts
  exact (forSlots_induction (P := Acts s) (fun sl _ ht => ht.offerDue sl) hcounted).txTake

theorem grantExpiry_settles (s : State) : Settles s (txTake (forSlots offerNewHead (expireAll s))) :=
  (forSlots_induction (P := Acts s) (fun sl _ ht => ht.of_act_or_eq (offerNewHead_act sl _))
    (expireAll_settles s).acts).txTake

/-- NOTICE_INTERVAL_EXPIRY of a slot: what it does where its condition stands, and nothing elsewhere. -/
theorem intervalExpiry_settles (sl : SlotNum) (s : State) :
    Settles s (if s.atTick && s.intervalExpired sl then txTake (offerDue sl (endUnacked sl s)) else s) := by
  split
  · exact ((endUnacked_settles sl s).acts.offerDue sl).txTake
  · exact .refl s

/-! ### The transmitter's completions -/

theorem immediateSent_settles (s : State) : Settles s (immediateSent s) := by
  unfold immediateSent
  split
  · next f rest ht hq => exact (Act.replySent s f rest ht hq).acts.txTake
  · exact .refl s

/-- Clearing a pending mark changes neither the number nor the counts of a record. -/
theorem clearPending_settles (c : CtxNum) (sl : SlotNum) (s : State) : Settles s (clearPending c sl s) :=
  modifyRecord_settles (by exact fun _ => ⟨rfl, rfl, rfl⟩) sl s

/-- A context that enters IDLE with its pending mark cleared: the mark may be cleared first. -/
theorem clearPending_idles (c : CtxNum) (sl : SlotNum) (s : State) :
    Settles s (drainTest (clearPending c sl (s.enter c .idle))) :=
  (clearPending_settles c sl s).act (.idles (clearPending c sl s) c)

theorem contextSent_settles (s : State) : Settles s (contextSent s) := by
  unfold contextSent
  split
  · next c f rest ht hq =>
    exact ((Act.contextReplySent s c f rest ht hq).acts.trans_settles (clearPending_idles c _ _)).txTake
  · exact .refl s

/-- A notice state set to what it is changes nothing. -/
theorem setNotice_same {s : State} {sl : SlotNum} {g : GrantNum} {rest : List GrantNum} {n : Notice}
    (hq : (s.slot sl).queue = g :: rest) (hn : s.headNotice sl = some n) : setNotice g n s = s := by
  simp only [State.headNotice, hq] at hn
  cases hb : (s.grant g).body with
  | free | live => simp [hb] at hn
  | closing t c =>
    simp only [hb, Option.some.injEq] at hn
    subst hn
    rw [setNotice_closing _ hb, State.setGrant]
    have hsame : s.grants.set g.val { s.grant g with body := .closing t { c with notice := c.notice } } g.isLt =
        s.grants := by
      rw [show ({ s.grant g with body := .closing t { c with notice := c.notice } } : Grant) = s.grant g from by
        rw [← hb]]
      exact Vector.set_getElem_self g.isLt
    rw [hsame]

theorem headNoticeSent_settles (s : State) : Settles s (headNoticeSent s) := by
  unfold headNoticeSent
  split
  · next sl f ht =>
    simp only []
    split
    · next g rest n hq hn =>
      cases ho : n.isOpen
      · have hsend : n.afterSend = n := by
          cases n <;> first | rfl | cases ho
        rw [hsend, setNotice_same hq hn]
        exact (Act.noticeSent s sl f ht).acts.txTake
      · obtain ⟨tries, hsend⟩ : ∃ tries, n.afterSend = .awaitAck tries 0 := by
          cases n <;> first | exact ⟨_, rfl⟩ | cases ho
        rw [hsend]
        have htx : (setNotice g (.awaitAck tries 0) s).tx = .notice (some sl) f := by
          obtain ⟨_, h⟩ := setNotice_only g (.awaitAck tries 0) s
          rw [h]; exact ht
        exact ((Act.recounts s sl g rest n tries 0 hq hn ho).settles.acts.act (.noticeSent _ sl f htx)).txTake
    · exact (Act.noticeSent s sl f ht).acts.txTake
  · exact .refl s

theorem detachedSent_settles (s : State) : Settles s (detachedSent s) := by
  unfold detachedSent
  split
  · next f ht => exact (Act.detachedSent s f ht).acts.txTake
  · exact .refl s

/-! ### The node bus -/

theorem lowerInFlight_settles (g : GrantNum) (s : State) : Settles s (lowerInFlight g s) :=
  (Act.countsInFlight s g _).settles.trans (testReady_settles g _)

theorem setCache_settles (x : Ctx) (s : State) : Settles s (setCache x s) :=
  modifyRecord_settles (by exact fun _ => ⟨rfl, rfl, rfl⟩) x.slot s

theorem lowerInFlight_ctx (g : GrantNum) (s : State) (c : CtxNum) : (lowerInFlight g s).ctx c = s.ctx c := by
  obtain ⟨_, _, _, _, _, _, _, h⟩ := lowerInFlight_only g s
  rw [h]; rfl

theorem endPhase_acts {c : CtxNum} {s : State} (hm : (s.ctx c).inMemoryPhase = true) : Acts s (endPhase c s) := by
  have hlowered := lowerInFlight_settles (s.ctx c).grant s
  have hcached := hlowered.trans (setCache_settles (s.ctx c) _)
  unfold endPhase
  simp only []
  split
  · exact (hlowered.act (.idles _ c)).acts
  · split
    · exact (hcached.act (.idles _ c)).acts
    · split
      · next hl =>
        refine hcached.acts.act (.queuesReply _ c _ hl ?_)
        rw [show (setCache (s.ctx c) (lowerInFlight (s.ctx c).grant s)).ctx c = s.ctx c from
          lowerInFlight_ctx (s.ctx c).grant s c]
        exact hm
      · exact (hcached.trans (clearPending_idles c _ _)).acts

theorem takeResult_acts (c : CtxNum) (res : LineResult) (s : State) : Acts s (takeResult c res s) := by
  have hself : ∀ x : Ctx, x.inMemoryPhase = true → ((s.setCtx c x).ctx c).inMemoryPhase = true := fun x hx => by
    rw [State.ctx_setCtx_self]; exact hx
  unfold takeResult
  simp only []
  split
  · next hm =>
    cases res with
    | done data =>
      have hrecorded := (Act.changesContext s c ((s.ctx c).recordLine data) rfl).settles
      simp only []
      split
      · exact hrecorded.trans_acts (endPhase_acts (hself ((s.ctx c).recordLine data) hm))
      · exact hrecorded.acts
    | fault =>
      have hfaulted := (Act.changesContext s c { s.ctx c with fault := true } rfl).settles.act
        (.registers _ s.enables { s.alerts with busFault := true } s.stage)
      exact hfaulted.trans_acts (endPhase_acts (hself { s.ctx c with fault := true } hm))
  · exact (Settles.refl s).acts

/-- The end of the outstanding line operation, once its write is recorded and the port is free. -/
theorem lineEnd_settles {s : State} {owner : Option CtxNum} {op : LineOp} (res : LineResult)
    (hp : s.port = .busy owner op) : Settles (acceptWrite op res { s with port := .free }) (lineEnd res s) := by
  simp only [lineEnd, hp]
  cases owner with
  | some c => exact ((takeResult_acts c res _).trans_settles (givePort_settles _)).txTake
  | none => exact (givePort_settles _).acts.txTake

/-! ### The link -/

theorem linkEnableWrite_settles (b : Bool) (s : State) : Settles s (linkEnableWrite b s) := by
  cases b with
  | true =>
    simp only [linkEnableWrite, if_true]
    split
    · next h =>
      split
      · next hl => exact (Act.trains s h.1 hl).settles
      · next hl => exact (Act.enables s h.1 h.2 hl).settles
    · exact .refl s
  | false =>
    simp only [linkEnableWrite, Bool.false_eq_true, if_false]
    split
    · next hl =>
      have hdown : ({ s with linkEnable := false } : State) = { s with linkEnable := false, link := .down } := by
        rw [← hl]
      rw [hdown]
      exact (Act.disables s (by simp [hl])).settles
    · next hl => exact (Act.disables s (by simp [hl])).settles
    · next hl => exact (Act.goesDown s hl).settles

theorem syncLost_settles (s : State) : Settles s (syncLost s) := by
  unfold syncLost
  split
  · exact .refl s
  · next hl => exact (Act.trainingRestarts s hl).settles
  · next hl => exact (Act.losesSync s hl).settles

theorem trainingComplete_settles (s : State) : Settles s (trainingComplete s) := by
  unfold trainingComplete
  split
  · next hl =>
    refine (forSlots_acts (P := fun t => t.link = .up) (fun sl t ht => ?_) (fun sl t ht => reofferHead_act sl ht)
      (Act.entersUp s hl).acts rfl).txTake
    exact (link_of_linkAlert (reofferHead_linkAlert sl t)).trans ht
  · exact .refl s

/-! ### What a step does -/

/-- What a command does outside reset to a state, by the parts of it that are no acts: a power-on reset; an engine
reset, after what the other fields of its word do; the removal of the head completion record, whose slot goes to a
command or to the backlog; and the end of a line operation, which may write a line of node memory. -/
inductive Moves : Instr → State → State → Prop where
  | powers (low out : Bool) (straps : BitVec 6) (s : State) :
      Moves (.powerOnReset low out straps) s (powerOn low out straps s)
  | acts {c : Instr} {s t : State} (hc : isPowerOnReset c = false) (h : Settles s t) : Moves c s t
  | resets {c : Instr} {s u : State} (hc : isPowerOnReset c = false)
      (hw : WellFormed c = true → resetsPart c = true) (h : Settles s u) : Moves c s (engineReset u)
  | frees {c : Instr} {s t : State} {r : Completion} {rest : List Completion} (hc : isPowerOnReset c = false)
      (hw : WellFormed c = true → ∃ v, c = .cqAck v) (hq : s.cq = r :: rest) (hb : s.backlog = [])
      (h : Settles { s with cq := rest } t) : Moves c s t
  | places {c : Instr} {s : State} {r : Completion} {rest : List Completion} (hc : isPowerOnReset c = false)
      (hw : WellFormed c = true → ∃ v, c = .cqAck v) (hq : s.cq = r :: rest) (hb : s.backlog ≠ []) :
      Moves c s (placeBacklogHead { s with cq := rest })
  | ends {c : Instr} {s t : State} {owner : Option CtxNum} {op : LineOp} {res : LineResult}
      (hc : (∃ data, c = .lineDone data ∧ res = .done data) ∨ (c = .lineBusFault ∧ res = .fault) ∨
        (c = .detachedLineEnd res ∧ owner = none))
      (hp : s.port = .busy owner op) (h : Settles (acceptWrite op res { s with port := .free }) t) : Moves c s t

theorem controlWrite_moves {c : Instr} {v : Word} (hc : isPowerOnReset c = false)
    (hw : WellFormed c = true → v.getLsbD 1 = true → resetsPart c = true) (s : State) :
    Moves c s (controlWrite v s) := by
  have hwritten := (Act.registers s (Enables.ofWord v) s.alerts s.stage).settles.trans
    (linkEnableWrite_settles (v.getLsbD 0) _)
  unfold controlWrite
  simp only []
  split
  · next h1 => exact .resets hc (fun h => hw h h1) hwritten
  · exact .acts hc hwritten

theorem ackRecord_moves {c : Instr} (hc : isPowerOnReset c = false) (hw : WellFormed c = true → ∃ v, c = .cqAck v)
    (s : State) : Moves c s (ackRecord s) := by
  unfold ackRecord
  split
  · exact .acts hc (.refl s)
  · next r rest hq =>
    simp only []
    split
    · next hb => exact .frees hc hw hq hb (takeCommands_settles _ _)
    · next hb => exact .places hc hw hq hb

theorem windowWrite_moves (offset : BitVec 8) (lanes : BitVec 4) (v : Word) (s : State) :
    Moves (.ignoredWrite offset lanes v) s (windowWrite offset lanes v s) := by
  by_cases hwf : WellFormed (.ignoredWrite offset lanes v) = true
  · rw [windowWrite_ignored hwf]
    exact .acts rfl (.refl s)
  · unfold windowWrite
    split
    · split
      · exact controlWrite_moves rfl (fun h => absurd h hwf) s
      · exact .acts rfl (Act.registers s s.enables (s.alerts.clearBy v) s.stage).settles
      · exact .acts rfl (Act.registers s s.enables s.alerts _).settles
      · exact .acts rfl (Act.registers s s.enables s.alerts _).settles
      · exact .acts rfl (Act.registers s s.enables s.alerts _).settles
      · exact .acts rfl (Act.registers s s.enables s.alerts _).settles
      · exact .acts rfl (submitRecord_settles s.stage s)
      · exact ackRecord_moves rfl (fun h => absurd h hwf) s
      · exact .acts rfl (.refl s)
    · exact .acts rfl (.refl s)

theorem lineEnd_moves {c : Instr} {res : LineResult} (hc : isPowerOnReset c = false) {s : State}
    (h : ∀ owner op, s.port = .busy owner op → (∃ data, c = .lineDone data ∧ res = .done data) ∨
      (c = .lineBusFault ∧ res = .fault) ∨ (c = .detachedLineEnd res ∧ owner = none)) :
    Moves c s (lineEnd res s) := by
  cases hp : s.port with
  | free =>
    simp only [lineEnd, hp]
    exact .acts hc (.refl s)
  | busy owner op => exact .ends (h owner op hp) hp (lineEnd_settles res hp)

theorem detachedEnd_moves (res : LineResult) (s : State) : Moves (.detachedLineEnd res) s (detachedEnd res s) := by
  unfold detachedEnd
  split
  · next op hp =>
    refine lineEnd_moves rfl fun owner op' hp' => .inr (.inr ⟨rfl, ?_⟩)
    rw [hp] at hp'
    cases hp'
    rfl
  · exact .acts rfl (.refl s)

/-- An outcome of a command that moves the part: a next state, the same one in reset. -/
theorem event_moves {c : Instr} {f : State → State} (hc : isPowerOnReset c = false) (hf : ∀ s, Moves c s (f s))
    (s : State) : ∃ t, event f s = .next t ∧ Moves c s t ∧ (s.inReset = true → t = s) := by
  cases h : s.inReset with
  | true => exact ⟨s, event_held h, .acts hc (.refl s), fun _ => rfl⟩
  | false => exact ⟨f s, event_running h, hf s, fun hr => by cases hr⟩

theorem event_settles_moves {c : Instr} {f : State → State} (hc : isPowerOnReset c = false)
    (hf : ∀ s, Settles s (f s)) (s : State) :
    ∃ t, event f s = .next t ∧ Moves c s t ∧ (s.inReset = true → t = s) :=
  event_moves hc (fun s => .acts hc (hf s)) s

/-- What every command does: it answers a next state, reached as `Moves` says, and in reset none but POWER_ON_RESET does
anything (R185). -/
theorem exec_moves (c : Instr) (s : State) :
    ∃ t, exec c s = .next t ∧ Moves c s t ∧ (isPowerOnReset c = false → s.inReset = true → t = s) := by
  suffices h : isPowerOnReset c = false → ∃ t, exec c s = .next t ∧ Moves c s t ∧ (s.inReset = true → t = s) by
    cases hc : isPowerOnReset c with
    | false =>
      obtain ⟨t, hexec, hmoves, hreset⟩ := h hc
      exact ⟨t, hexec, hmoves, fun _ => hreset⟩
    | true =>
      cases c with
      | powerOnReset low out straps =>
        exact ⟨_, exec_powerOnReset low out straps s, .powers low out straps s, fun h => by cases h⟩
      | _ => cases hc
  intro hc
  cases c with
  | powerOnReset => cases hc
  | engineReset v => exact event_moves rfl (controlWrite_moves rfl (fun _ _ => rfl)) s
  | linkEnable v =>
    exact event_moves rfl
      (controlWrite_moves (c := .linkEnable v) rfl
        (fun _ h => (getLsbD_withBit_other v true (by decide) (by decide)).symm.trans h)) s
  | linkDisable v =>
    exact event_moves rfl
      (controlWrite_moves (c := .linkDisable v) rfl
        (fun _ h => (getLsbD_withBit_other v false (by decide) (by decide)).symm.trans h)) s
  | interruptEnableWrite v =>
    exact event_moves rfl
      (controlWrite_moves rfl (fun _ h => by rw [getLsbD_withBit_self v (by decide) false] at h; cases h)) s
  | alertsClear v =>
    exact event_settles_moves rfl (fun s => (Act.registers s s.enables (s.alerts.clearBy v) s.stage).settles) s
  | stageWrite i v =>
    exact event_settles_moves rfl (fun s => (Act.registers s s.enables s.alerts (s.stage.set i.val v i.isLt)).settles) s
  | submit => exact event_settles_moves rfl (fun s => submitRecord_settles s.stage s) s
  | cqAck v => exact event_moves rfl (ackRecord_moves rfl (fun _ => ⟨v, rfl⟩)) s
  | ignoredWrite offset lanes v => exact event_moves rfl (windowWrite_moves offset lanes v) s
  | backlogPlace => exact event_settles_moves rfl (fun s => (Act.placesBacklog s).settles) s
  | issue | amend | revoke | sweep | queryGrant | queryLine | admitStation | bar | forget | queryStation | setLimits
  | setTiming | hold | resume | badCommand => exact event_settles_moves rfl (submitRecord_settles _) s
  | syncLost => exact event_settles_moves rfl syncLost_settles s
  | trainingComplete => exact event_settles_moves rfl trainingComplete_settles s
  | filteredFrame bytes => exact event_settles_moves rfl (receiveFrame_settles bytes) s
  | unknownKindFrame | hello | read | write | renew | returnGrant | probe | noticeAck =>
    exact event_settles_moves rfl (arrive_settles _) s
  | tick => exact event_settles_moves rfl tickEvent_settles s
  | grantExpiry => exact event_settles_moves rfl grantExpiry_settles s
  | noticeIntervalExpiry sl => exact event_settles_moves rfl (intervalExpiry_settles sl) s
  | noticeOffer sl =>
    exact event_settles_moves rfl
      (fun s => ((Settles.refl s).acts.of_act_or_eq (offerNewHead_act sl s)).txTake) s
  | transmitStart => exact event_settles_moves rfl (fun s => (Settles.refl s).acts.txTake) s
  | immediateReplySent => exact event_settles_moves rfl immediateSent_settles s
  | contextReplySent => exact event_settles_moves rfl contextSent_settles s
  | noticeSent => exact event_settles_moves rfl headNoticeSent_settles s
  | detachedNoticeSent => exact event_settles_moves rfl detachedSent_settles s
  | lineOperationStart => exact event_settles_moves rfl givePort_settles s
  | lineDone data =>
    exact event_moves rfl (fun s => lineEnd_moves (s := s) rfl fun _ _ _ => .inl ⟨data, rfl, rfl⟩) s
  | lineBusFault =>
    exact event_moves rfl (fun s => lineEnd_moves (s := s) rfl fun _ _ _ => .inr (.inl ⟨rfl, rfl⟩)) s
  | detachedLineEnd result => exact event_moves rfl (detachedEnd_moves result) s
  | grantReady g => exact event_settles_moves rfl (testReady_settles g) s
  | drainEnd => exact event_settles_moves rfl (fun s => (Act.drains s).settles) s

/-- The parts of a move that are no acts keep `P`, and so does a change of the waiting commands. -/
structure Kept (P : State → Prop) : Prop where
  act : ∀ {e s t}, Act e s t → P s → P t
  pending : ∀ s p, P s → P { s with pending := p }
  power : ∀ low out straps s, P s → P (powerOn low out straps s)
  reset : ∀ s, P s → P (engineReset s)
  free : ∀ s r rest, s.cq = r :: rest → s.backlog = [] → P s → P { s with cq := rest }
  place : ∀ s r rest, s.cq = r :: rest → s.backlog ≠ [] → P s → P (placeBacklogHead { s with cq := rest })
  line : ∀ s owner op res, s.port = .busy owner op → P s → P (acceptWrite op res { s with port := .free })

theorem Kept.moves {P : State → Prop} (hP : Kept P) {c : Instr} {s t : State} (h : Moves c s t) (hs : P s) : P t := by
  cases h with
  | powers low out straps => exact hP.power low out straps s hs
  | acts _ h => exact h.keeps hP.act hs
  | resets _ _ h => exact hP.reset _ (h.keeps hP.act hs)
  | frees _ _ hq hb h => exact h.keeps hP.act (hP.free s _ _ hq hb hs)
  | places _ _ hq hb => exact hP.place s _ _ hq hb hs
  | ends _ hp h => exact h.keeps hP.act (hP.line s _ _ _ hp hs)

/-- A step takes the front command, if there is one, and moves the part as it says. -/
theorem step_moves {s t : State} (h : step s = .next t) :
    t = s ∨ ∃ c rest, s.pending = c :: rest ∧ Moves c { s with pending := rest } t := by
  unfold step at h
  split at h
  · cases h; exact .inl rfl
  · next c rest hp =>
    obtain ⟨u, hexec, hmoves, -⟩ := exec_moves c { s with pending := rest }
    rw [hexec] at h
    cases h
    exact .inr ⟨c, rest, hp, hmoves⟩

/-- An invariant that every part of a move keeps, every step keeps. -/
theorem Kept.step {P : State → Prop} (hP : Kept P) {s t : State} (h : step s = .next t) (hs : P s) : P t := by
  obtain rfl | ⟨c, rest, -, hmoves⟩ := step_moves h
  · exact hs
  · exact hP.moves hmoves (hP.pending s rest hs)

end Sys2Proof.Machine
end


section
/-! PROOFS. What no act touches: the waiting commands, SELF, the reset levels and the record of node memory (R130, R185;
log 1, 12, 18). -/

namespace Sys2Proof.Machine

/-- The waiting commands, SELF, the levels that hold the part in reset, and the lines that the part has written. -/
def State.outside (s : State) : List Instr × StationNum × Bool × Bool × List (Nat × Line) :=
  (s.pending, s.self, s.resetnLow, s.supplyOut, s.nodeMem)

theorem linkLeavesUp_outside (next : LinkState) (s : State) : (linkLeavesUp next s).outside = s.outside :=
  let ⟨_, _, _, _, _, _, h⟩ := linkLeavesUp_only next s
  (congrArg State.outside h).trans rfl

theorem leaveQueue_outside (sl : SlotNum) (outcome : Notice) (s : State) :
    (leaveQueue sl outcome s).outside = s.outside :=
  let ⟨_, _, _, _, h⟩ := leaveQueue_only sl outcome s
  (congrArg State.outside h).trans rfl

theorem abandonQueue_outside (sl : SlotNum) (s : State) : (abandonQueue sl s).outside = s.outside :=
  let ⟨_, _, _, h⟩ := abandonQueue_only sl s
  (congrArg State.outside h).trans rfl

theorem setNotice_outside (g : GrantNum) (n : Notice) (s : State) : (setNotice g n s).outside = s.outside :=
  let ⟨_, h⟩ := setNotice_only g n s
  (congrArg State.outside h).trans rfl

theorem offerFrame_outside (sl : SlotNum) (s : State) : (offerFrame sl s).outside = s.outside :=
  let ⟨_, _, h⟩ := offerFrame_only sl s
  (congrArg State.outside h).trans rfl

theorem txTake_outside (s : State) : (txTake s).outside = s.outside :=
  let ⟨_, _, _, h⟩ := txTake_only s
  (congrArg State.outside h).trans rfl

theorem closeGrant_outside (cause : Cause) (g : GrantNum) (s : State) : (closeGrant cause g s).outside = s.outside :=
  let ⟨_, _, h⟩ := closeGrant_only cause g s
  (congrArg State.outside h).trans rfl

theorem closeAll_outside (cause : Cause) (gs : List GrantNum) (s : State) :
    (closeAll cause gs s).outside = s.outside :=
  let ⟨_, _, h⟩ := closeAll_only cause gs s
  (congrArg State.outside h).trans rfl

theorem testReady_outside (g : GrantNum) (s : State) : (testReady g s).outside = s.outside :=
  let ⟨_, _, _, _, _, _, _, h⟩ := testReady_only g s
  (congrArg State.outside h).trans rfl

theorem allocate_outside (g : GrantNum) (rest : List GrantNum) (t : Terms) (s : State) :
    (allocate g rest t s).outside = s.outside :=
  let ⟨_, h⟩ := allocate_only g rest t s
  (congrArg State.outside h).trans rfl

theorem handAdmitted_outside (sl : SlotNum) (n : StationNum) (s : State) :
    (handAdmitted sl n s).outside = s.outside :=
  let ⟨_, _, _, _, h⟩ := handAdmitted_only sl n s
  (congrArg State.outside h).trans rfl

theorem handRestarted_outside (sl : SlotNum) (x : Station) (epoch : BitVec 16) (swept : Nat) (s : State) :
    (handRestarted sl x epoch swept s).outside = s.outside :=
  let ⟨_, _, _, _, h⟩ := handRestarted_only sl x epoch swept s
  (congrArg State.outside h).trans rfl

theorem placeBacklogHead_outside (s : State) : (placeBacklogHead s).outside = s.outside :=
  let ⟨_, _, _, _, _, _, h⟩ := placeBacklogHead_only s
  (congrArg State.outside h).trans rfl

theorem drainTest_outside (s : State) : (drainTest s).outside = s.outside :=
  let ⟨_, _, _, _, h⟩ := drainTest_only s
  (congrArg State.outside h).trans rfl

/-- No act touches what is outside. -/
theorem Act.outside {e : Effect} {s t : State} (h : Act e s t) : t.outside = s.outside := by
  cases h with
  | goesDown | losesSync => exact linkLeavesUp_outside ..
  | transmits => exact txTake_outside s
  | offers => exact offerFrame_outside ..
  | recounts => exact setNotice_outside ..
  | leavesQueue => exact leaveQueue_outside ..
  | abandons =>
    exact (foldl_view (fun s g => setNotice_outside g .abandoned s) _ _).trans (abandonQueue_outside _ s)
  | closes => exact closeGrant_outside ..
  | countsDown => exact closeAll_outside .expired _ (countDownAll s)
  | tested => exact testReady_outside ..
  | issues => exact allocate_outside ..
  | admits => exact handAdmitted_outside ..
  | restarts => exact handRestarted_outside ..
  | idles | drains => exact drainTest_outside _
  | placesBacklog => exact placeBacklogHead_outside s
  | _ => rfl

/-- No chain of acts touches what is outside. -/
theorem Settles.outside {s t : State} (h : Settles s t) : t.outside = s.outside :=
  Run.keeps (P := fun t => t.outside = s.outside) (fun hact ht => hact.outside.trans ht) h rfl

/-- The waiting commands, SELF and the reset levels, without node memory. -/
def State.pins (s : State) : List Instr × StationNum × Bool × Bool := (s.pending, s.self, s.resetnLow, s.supplyOut)

theorem pins_of_outside {s t : State} (h : t.outside = s.outside) : t.pins = s.pins := by
  simp only [State.outside, Prod.mk.injEq] at h
  obtain ⟨hp, hself, hlow, hout, -⟩ := h
  simp only [State.pins, hp, hself, hlow, hout]

theorem nodeMem_of_outside {s t : State} (h : t.outside = s.outside) : t.nodeMem = s.nodeMem :=
  congrArg (fun p => p.2.2.2.2) h

theorem acceptWrite_pins (op : LineOp) (res : LineResult) (s : State) : (acceptWrite op res s).pins = s.pins :=
  let ⟨_, h⟩ := acceptWrite_only op res s
  (congrArg State.pins h).trans rfl

/-- No command but POWER_ON_RESET moves SELF or the reset levels, and none the waiting commands (R130, log 1). -/
theorem Moves.pins {c : Instr} {s t : State} (h : Moves c s t) (hc : isPowerOnReset c = false) : t.pins = s.pins := by
  cases h with
  | powers => cases hc
  | acts _ h => exact pins_of_outside h.outside
  | resets _ _ h => exact pins_of_outside (t := engineReset _) h.outside
  | frees _ _ _ _ h => exact pins_of_outside h.outside
  | places => exact pins_of_outside (placeBacklogHead_outside _)
  | ends _ _ h => exact (pins_of_outside h.outside).trans (acceptWrite_pins _ _ _)

theorem Moves.pending {c : Instr} {s t : State} (h : Moves c s t) : t.pending = s.pending := by
  cases hc : isPowerOnReset c with
  | false => exact congrArg Prod.fst (h.pins hc)
  | true => cases h with
    | powers => rfl
    | acts h' => rw [hc] at h'; cases h'
    | resets h' => rw [hc] at h'; cases h'
    | frees h' => rw [hc] at h'; cases h'
    | places h' => rw [hc] at h'; cases h'
    | ends h' =>
      obtain ⟨_, rfl, _⟩ | ⟨rfl, _⟩ | ⟨rfl, _⟩ := h' <;> cases hc

/-- Settles O2: every command answers a next state by a move of the part, and no move but POWER_ON_RESET touches the
pins and SELF. -/
theorem onlyPowerOnResetMovesPinsAndSelf : Obligations.OnlyPowerOnResetMovesPinsAndSelf := by
  intro c s
  obtain ⟨t, hexec, hmoves, hreset⟩ := exec_moves c s
  refine ⟨t, hexec, hmoves.pending, fun hc => ?_⟩
  have hpins := hmoves.pins hc
  simp only [State.pins, Prod.mk.injEq] at hpins
  obtain ⟨-, hself, hlow, hout⟩ := hpins
  exact ⟨hself, hlow, hout, fun h => hreset hc (by simpa [State.inReset] using h)⟩

/-! ### Node memory (R96, log 12) -/

/-- An accepted line write sets its line and leaves the others. -/
theorem nodeRead_acceptWrite (a : Nat) (l data : Line) (s : State) (b : Nat) :
    nodeRead b (acceptWrite (.write a l) (.done data) s).nodeMem = if b = a then some l else nodeRead b s.nodeMem := by
  split
  · next h => rw [h]; exact nodeRead_nodeWrite_self a l s.nodeMem
  · next h => exact nodeRead_nodeWrite_ne l s.nodeMem h

/-- The end of a line operation changes node memory as the node bus accepts its write, and no more. -/
theorem lineEnd_nodeMem {s : State} {owner : Option CtxNum} {op : LineOp} (res : LineResult)
    (hp : s.port = .busy owner op) : (lineEnd res s).nodeMem = (acceptWrite op res s).nodeMem := by
  rw [nodeMem_of_outside (lineEnd_settles res hp).outside]
  unfold acceptWrite
  split <;> rfl

/-- A line read, and any operation that ends in a fault, writes nothing (R96, R97). -/
theorem acceptWrite_nothing {op : LineOp} {res : LineResult} (s : State)
    (h : ∀ a l data, ¬ (op = .write a l ∧ res = .done data)) : (acceptWrite op res s).nodeMem = s.nodeMem := by
  unfold acceptWrite
  split
  · exact absurd ⟨rfl, rfl⟩ (h _ _ _)
  · rfl
  · rfl

/-- Every command that is no end of a line operation with result done leaves node memory. -/
theorem Moves.nodeMem {c : Instr} {s t : State} (h : Moves c s t) (hdone : ∀ data, c ≠ .lineDone data)
    (hdetached : ∀ res, c ≠ .detachedLineEnd res) : t.nodeMem = s.nodeMem := by
  cases h with
  | powers => rfl
  | acts _ h => exact nodeMem_of_outside h.outside
  | resets _ _ h => exact nodeMem_of_outside (t := engineReset _) h.outside
  | frees _ _ _ _ h => exact nodeMem_of_outside h.outside
  | places => exact nodeMem_of_outside (placeBacklogHead_outside _)
  | ends hc hp h =>
    obtain ⟨data, rfl, -⟩ | ⟨rfl, rfl⟩ | ⟨rfl, -⟩ := hc
    · exact absurd rfl (hdone data)
    · exact (nodeMem_of_outside h.outside).trans (acceptWrite_nothing _ (by simp))
    · exact absurd rfl (hdetached _)

theorem exec_lineDone (data : Line) (s : State) : exec (.lineDone data) s = event (lineEnd (.done data)) s := rfl

theorem exec_detachedLineEnd (res : LineResult) (s : State) :
    exec (.detachedLineEnd res) s = event (detachedEnd res) s := rfl

/-- The outcome `t` of command `c` in `s` writes the line of the outstanding line write, or nothing, as the statement
has it. -/
def WritesAccepted (c : Instr) (s t : State) : Prop :=
  (∃ owner a l, s.inReset = false ∧ s.port = .busy owner (.write a l) ∧
      ((∃ data, c = .lineDone data) ∨ (owner = none ∧ ∃ data, c = .detachedLineEnd (.done data))) ∧
      ∀ b, nodeRead b t.nodeMem = if b = a then some l else nodeRead b s.nodeMem) ∨
    ((∀ owner a l, s.port = .busy owner (.write a l) → ¬ s.inReset = true →
        (∀ data, c ≠ .lineDone data) ∧ (owner = none → ∀ data, c ≠ .detachedLineEnd (.done data))) ∧
      t.nodeMem = s.nodeMem)

/-- An outcome that leaves node memory where no write is outstanding for the command to end. -/
theorem WritesAccepted.of_nothing {c : Instr} {s t : State} (hm : t.nodeMem = s.nodeMem)
    (h : ∀ owner a l, s.port = .busy owner (.write a l) → ¬ s.inReset = true →
      (∀ data, c ≠ .lineDone data) ∧ (owner = none → ∀ data, c ≠ .detachedLineEnd (.done data))) :
    WritesAccepted c s t := .inr ⟨h, hm⟩

/-- The end of a line operation by a command that gives it the result `res`. -/
theorem lineEnd_writesAccepted {c : Instr} {s : State} {owner : Option CtxNum} {op : LineOp} {res : LineResult}
    (hreset : s.inReset = false) (hp : s.port = .busy owner op)
    (hc : ∀ data, res = .done data →
      (∃ data, c = .lineDone data) ∨ (owner = none ∧ ∃ data, c = .detachedLineEnd (.done data)))
    (hfault : res = .fault → (∀ data, c ≠ .lineDone data) ∧ ∀ data, c ≠ .detachedLineEnd (.done data)) :
    WritesAccepted c s (lineEnd res s) := by
  have hmem := lineEnd_nodeMem res hp
  cases op with
  | read a =>
    refine .of_nothing (hmem.trans (acceptWrite_nothing s (by simp))) fun owner' a' l hp' _ => ?_
    rw [hp] at hp'
    cases hp'
  | write a l =>
    cases res with
    | done data =>
      refine .inl ⟨owner, a, l, hreset, hp, hc data rfl, fun b => ?_⟩
      rw [hmem, nodeRead_acceptWrite]
    | fault =>
      exact .of_nothing (hmem.trans (acceptWrite_nothing s (by simp)))
        fun _ _ _ _ _ => ⟨(hfault rfl).1, fun _ => (hfault rfl).2⟩

theorem lineDone_writesAccepted (data : Line) {s : State} (hreset : s.inReset = false) :
    WritesAccepted (.lineDone data) s (lineEnd (.done data) s) := by
  cases hp : s.port with
  | free => exact .of_nothing (by simp only [lineEnd, hp]) (by simp [hp])
  | busy owner op => exact lineEnd_writesAccepted hreset hp (fun _ _ => .inl ⟨data, rfl⟩) (by simp)

theorem detachedEnd_writesAccepted (res : LineResult) {s : State} (hreset : s.inReset = false) :
    WritesAccepted (.detachedLineEnd res) s (detachedEnd res s) := by
  unfold detachedEnd
  split
  · next op hp =>
    exact lineEnd_writesAccepted hreset hp (fun data h => .inr ⟨rfl, data, by rw [h]⟩) (by rintro rfl; simp)
  · next hp =>
    refine .of_nothing rfl fun owner a l hp' _ => ⟨by simp, ?_⟩
    rintro rfl
    exact absurd hp' (hp _)

/-- Settles O51: a line operation that ends done writes the line of its own write, and no other act of the part touches
the record of node memory. -/
theorem onlyAcceptedLineWritesChangeMemory : Obligations.OnlyAcceptedLineWritesChangeMemory := by
  intro c s
  show ∃ t, exec c s = .next t ∧ WritesAccepted c s t
  obtain ⟨t, hexec, hmoves, hheld⟩ := exec_moves c s
  cases hreset : s.inReset with
  | true =>
    refine ⟨t, hexec, .of_nothing ?_ fun _ _ _ _ h => absurd hreset h⟩
    cases hc : isPowerOnReset c with
    | false => rw [hheld hc hreset]
    | true =>
      cases c with
      | powerOnReset => exact hmoves.nodeMem (by simp) (by simp)
      | _ => cases hc
  | false =>
    cases c with
    | lineDone data =>
      exact ⟨_, (exec_lineDone data s).trans (event_running hreset), lineDone_writesAccepted data hreset⟩
    | detachedLineEnd res =>
      exact ⟨_, (exec_detachedLineEnd res s).trans (event_running hreset), detachedEnd_writesAccepted res hreset⟩
    | _ => exact ⟨t, hexec, .of_nothing (hmoves.nodeMem (by simp) (by simp)) (by simp)⟩

end Sys2Proof.Machine
end


section
/-! PROOFS. The free list and the window index (R10, R13, R15): which acts move the terms of a grant or the lists, and
that each keeps the lists a partition of the table, and the index sorted. -/

namespace Sys2Proof.Machine

/-! ### What moves the terms of the grants -/

/-- The lists of the grant table, MEM_TOP and the terms of every entry are as they were, and no entry has become
LIVE. -/
structure SameTerms (s t : State) : Prop where
  freeList : t.freeList = s.freeList
  index : t.index = s.index
  memTop : t.memTop = s.memTop
  terms : ∀ g, (t.grant g).body.terms? = (s.grant g).body.terms?
  live : ∀ g u, (t.grant g).body = .live u → (s.grant g).body = .live u

theorem SameTerms.refl (s : State) : SameTerms s s := ⟨rfl, rfl, rfl, fun _ => rfl, fun _ _ h => h⟩

theorem SameTerms.trans {s t u : State} (h : SameTerms s t) (h' : SameTerms t u) : SameTerms s u :=
  ⟨h'.freeList.trans h.freeList, h'.index.trans h.index, h'.memTop.trans h.memTop,
    fun g => (h'.terms g).trans (h.terms g), fun g v hv => h.live g v (h'.live g v hv)⟩

/-- The grant table with its lists and MEM_TOP. -/
def State.table (s : State) : Vector Grant 512 × List GrantNum × List GrantNum × Nat :=
  (s.grants, s.freeList, s.index, s.memTop)

/-- An act that leaves the whole table leaves the terms. -/
theorem SameTerms.of_table {s t : State} (h : t.table = s.table) : SameTerms s t := by
  simp only [State.table, Prod.mk.injEq] at h
  obtain ⟨hgrants, hfree, hindex, htop⟩ := h
  refine ⟨hfree, hindex, htop, fun g => ?_, fun g u hu => ?_⟩
  · rw [State.grant, hgrants]; rfl
  · rw [State.grant, hgrants] at hu; exact hu

theorem linkLeavesUp_table (next : LinkState) (s : State) : (linkLeavesUp next s).table = s.table :=
  let ⟨_, _, _, _, _, _, h⟩ := linkLeavesUp_only next s
  (congrArg State.table h).trans rfl

theorem withdrawFrame_table (sl : SlotNum) (s : State) : (withdrawFrame sl s).table = s.table :=
  let ⟨_, _, _, h⟩ := withdrawFrame_only sl s
  (congrArg State.table h).trans rfl

theorem abandonQueue_table (sl : SlotNum) (s : State) : (abandonQueue sl s).table = s.table :=
  let ⟨_, _, _, h⟩ := abandonQueue_only sl s
  (congrArg State.table h).trans rfl

theorem offerFrame_table (sl : SlotNum) (s : State) : (offerFrame sl s).table = s.table :=
  let ⟨_, _, h⟩ := offerFrame_only sl s
  (congrArg State.table h).trans rfl

theorem txTake_table (s : State) : (txTake s).table = s.table :=
  let ⟨_, _, _, h⟩ := txTake_only s
  (congrArg State.table h).trans rfl

theorem handAdmitted_table (sl : SlotNum) (n : StationNum) (s : State) : (handAdmitted sl n s).table = s.table :=
  let ⟨_, _, _, _, h⟩ := handAdmitted_only sl n s
  (congrArg State.table h).trans rfl

theorem handRestarted_table (sl : SlotNum) (x : Station) (epoch : BitVec 16) (swept : Nat) (s : State) :
    (handRestarted sl x epoch swept s).table = s.table :=
  let ⟨_, _, _, _, h⟩ := handRestarted_only sl x epoch swept s
  (congrArg State.table h).trans rfl

theorem drainTest_table (s : State) : (drainTest s).table = s.table :=
  let ⟨_, _, _, _, h⟩ := drainTest_only s
  (congrArg State.table h).trans rfl

/-- A change of one record's body that leaves its terms and makes nothing LIVE. -/
theorem SameTerms.setBody {s : State} {g : GrantNum} {b : Body} (hterms : b.terms? = (s.grant g).body.terms?)
    (hlive : b.isLive = false) : SameTerms s (s.setBody g b) := by
  refine ⟨rfl, rfl, rfl, fun h => ?_, fun h u hu => ?_⟩
  · rw [State.grant_setBody]
    split
    · next e => rw [← e]; exact hterms
    · rfl
  · rw [State.grant_setBody] at hu
    split at hu
    · simp only [] at hu; rw [hu] at hlive; cases hlive
    · exact hu

theorem setNotice_sameTerms (g : GrantNum) (n : Notice) (s : State) : SameTerms s (setNotice g n s) := by
  unfold setNotice
  split
  · next t c hb => exact .setBody (by rw [hb]; rfl) rfl
  · exact .refl s
  · exact .refl s

theorem setRetireWait_sameTerms (g : GrantNum) (s : State) : SameTerms s (setRetireWait g s) := by
  unfold setRetireWait
  split
  · next t c hb => exact .setBody (by rw [hb]; rfl) rfl
  · exact .refl s
  · exact .refl s

/-- A record's closing leaves its terms (R32). -/
theorem Grant.closed_terms (x : Grant) (cause : Cause) : (x.closed cause).body.terms? = x.body.terms? := by
  cases hb : x.body with
  | free | closing => rw [Grant.closed_not_live (by rw [hb]; rfl), hb]
  | live t => rw [Grant.closed_live hb]; rfl

/-- A record after its closing is not LIVE. -/
theorem Grant.closed_isLive (x : Grant) (cause : Cause) : (x.closed cause).body.isLive = false := by
  cases hb : x.body with
  | free | closing => rw [Grant.closed_not_live (by rw [hb]; rfl), hb]; rfl
  | live t => rw [Grant.closed_live hb]; rfl

theorem closeGrant_sameTerms (cause : Cause) (g : GrantNum) (s : State) : SameTerms s (closeGrant cause g s) := by
  obtain ⟨_, _, h⟩ := closeGrant_only cause g s
  refine ⟨by rw [h], by rw [h], by rw [h], fun k => ?_, fun k u hu => ?_⟩
  · rw [closeGrant_grant]
    split
    · exact Grant.closed_terms _ cause
    · rfl
  · rw [closeGrant_grant] at hu
    split at hu
    · have := Grant.closed_isLive (s.grant k) cause
      rw [hu] at this
      cases this
    · exact hu

/-- What each act keeps of the terms, the acts in turn keep. -/
theorem foldl_sameTerms {α : Type} {f : State → α → State} (hf : ∀ s a, SameTerms s (f s a)) (l : List α) (s : State) :
    SameTerms s (l.foldl f s) := by
  induction l generalizing s with
  | nil => exact .refl s
  | cons a l ih => exact (hf s a).trans (ih (f s a))

theorem leaveQueue_sameTerms (sl : SlotNum) (outcome : Notice) (s : State) :
    SameTerms s (leaveQueue sl outcome s) := by
  unfold leaveQueue
  split
  · exact .refl s
  · next g rest _ =>
    exact (setNotice_sameTerms g outcome s).trans
      (.of_table (t := State.setSlot _ sl _) (withdrawFrame_table sl (setNotice g outcome s)))

/-- The acts that move the terms or the lists, with what the part has tested for each, and the move of all others. -/
inductive TermsMove : State → State → Prop where
  | same {s t : State} (h : SameTerms s t) : TermsMove s t
  | retires {s u : State} {g : GrantNum} {t : Terms} {c : Closing} (h : SameTerms s u)
      (hb : (u.grant g).body = .closing t c) : TermsMove s (retire g u)
  | countsDown (s : State) : TermsMove s (closeAll .expired (countDownAll s).runOut (countDownAll s))
  | renews {s : State} {g : GrantNum} {t : Terms} {n : Nat} (hb : (s.grant g).body = .live t)
      (hn : t.remaining = some n) :
      TermsMove s
        (s.setBody g
          (.live
            { t with
              remaining := some (min (n + t.renewAmount.getD 0) Config.maxLifetime), credits := t.credits - 1 }))
  | amends {s : State} {f : AmendFields} {g : GrantNum} {t : Terms} (hb : (s.grant g).body = .live t)
      (hf : amendBadField f t = false) (hw : ¬ (f.lengthSet = true ∧ s.memTop < (amendedTerms f t).windowEnd))
      (hc : (if widens t (amendedTerms f t) then s.firstConflict (some g) (amendedTerms f t) else none) = none) :
      TermsMove s (s.setBody g (.live (amendedTerms f t)))
  | issues {s : State} {f : IssueFields} {rights : Rights} {g : GrantNum} {rest : List GrantNum}
      (hf : issueBadField f = false) (hw : ¬ s.memTop < (issueTerms f rights).windowEnd)
      (hc : s.firstConflict none (issueTerms f rights) = none) (hl : s.freeList = g :: rest) :
      TermsMove s (allocate g rest (issueTerms f rights) s)
  | setsLimits {s : State} {memTop quota : Nat} {policy : Policy}
      (hm : memTop = s.memTop ∨ (s.highestEnd ≤ memTop ∧ memTop ≤ Config.lineLimit)) :
      TermsMove s { s with memTop := memTop, policy := policy, defaultQuota := quota }

/-- A ready grant is CLOSING (R35). -/
theorem Grant.isReady_closing {x : Grant} (h : x.isReady = true) :
    ∃ t c, x.body = .closing t c ∧ x.inFlight = 0 ∧ c.notice.finished = true ∧ c.retireWait = false := by
  unfold Grant.isReady at h
  split at h
  · next t c hb =>
    simp only [Bool.and_eq_true, beq_iff_eq, Bool.not_eq_true'] at h
    exact ⟨t, c, hb, h.1.1, h.1.2, h.2⟩
  · cases h
  · cases h

theorem testReady_termsMove (g : GrantNum) (s : State) : TermsMove s (testReady g s) := by
  unfold testReady
  split
  · next h =>
    split
    · obtain ⟨t, c, hb, -⟩ := Grant.isReady_closing h
      exact .retires (.refl s) hb
    · exact .same ((setRetireWait_sameTerms g s).trans (.of_table rfl))
  · exact .same (.refl s)

theorem placeBacklogHead_termsMove (s : State) : TermsMove s (placeBacklogHead s) := by
  unfold placeBacklogHead
  split
  · exact .same (.refl s)
  · next e rest _ =>
    split
    · cases e with
      | grant g =>
        cases hb : (s.grant g).body with
        | closing t c => exact .retires (u := { s with backlog := rest }) (.of_table rfl) hb
        | free | live =>
          rw [placeEvent, retire_not_closing (s := { s with backlog := rest })]
          · exact .same (.of_table rfl)
          · intro t c h; rw [show (s.grant g).body = _ from h] at hb; cases hb
      | admitted sl =>
        simp only [placeEvent]
        split <;> exact .same (.of_table rfl)
      | restarted sl =>
        simp only [placeEvent]
        split
        · split <;> exact .same (.of_table rfl)
        · exact .same (.of_table rfl)
      | holdReached => exact .same (.of_table rfl)
    · exact .same (.refl s)

/-- Every act moves the terms and the lists as `TermsMove` says. -/
theorem Act.termsMove {e : Effect} {s t : State} (h : Act e s t) : TermsMove s t := by
  cases h with
  | tested => exact testReady_termsMove ..
  | placesBacklog => exact placeBacklogHead_termsMove s
  | countsDown => exact .countsDown s
  | renews _ _ _ _ hb hn => exact .renews hb hn
  | amends _ _ _ _ hb _ hf hw hc => exact .amends hb hf hw hc
  | issues _ _ _ _ _ hf hw _ hc hl => exact .issues hf hw hc hl
  | setsLimits _ _ _ _ hm => exact .setsLimits hm
  | goesDown => exact .same (.of_table (linkLeavesUp_table ..))
  | losesSync => exact .same (.of_table (linkLeavesUp_table .training s))
  | transmits => exact .same (.of_table (txTake_table s))
  | offers => exact .same (.of_table (offerFrame_table ..))
  | recounts => exact .same (setNotice_sameTerms ..)
  | leavesQueue => exact .same (leaveQueue_sameTerms ..)
  | abandons =>
    exact .same ((SameTerms.of_table (abandonQueue_table _ s)).trans
      (foldl_sameTerms (fun s g => setNotice_sameTerms g .abandoned s) _ _))
  | closes => exact .same (closeGrant_sameTerms ..)
  | countsInFlight =>
    refine .same ⟨rfl, rfl, rfl, fun k => ?_, fun k u hu => ?_⟩
    · rw [State.grant_setGrant]
      split
      · next e => rw [e]
      · rfl
    · rw [State.grant_setGrant] at hu
      split at hu
      · next e => rw [← e]; exact hu
      · exact hu
  | admits => exact .same (.of_table (handAdmitted_table ..))
  | restarts => exact .same (.of_table (handRestarted_table ..))
  | idles | drains => exact .same (.of_table (drainTest_table _))
  | _ => exact .same (.of_table rfl)

/-! ### The partition and the order -/

/-- The free list and the index partition the table, seen through the terms: an entry without terms is FREE. -/
theorem Body.isFree_eq (b : Body) : b.isFree = b.terms?.isNone := by cases b <;> rfl

/-- The lists are a partition, and the index sorted. -/
def State.ListsSound (s : State) : Prop := s.GrantListsPartition ∧ s.IndexSorted

theorem State.GrantListsPartition.of_same {s t : State} (h : SameTerms s t) (hs : s.GrantListsPartition) :
    t.GrantListsPartition := by
  simp only [State.GrantListsPartition, Body.isFree_eq, h.freeList, h.index, h.terms] at hs ⊢
  exact hs

theorem State.IndexSorted.of_same {s t : State} (h : SameTerms s t) (hs : s.IndexSorted) : t.IndexSorted := by
  simp only [State.IndexSorted, h.index, h.terms] at hs ⊢
  exact hs

/-- The index is sorted where its entries and their bases are as they were. -/
theorem State.IndexSorted.of_bases {s t : State} (hindex : t.index = s.index)
    (hbase : ∀ g u, (t.grant g).body.terms? = some u → ∃ v, (s.grant g).body.terms? = some v ∧ v.base = u.base)
    (hs : s.IndexSorted) : t.IndexSorted := by
  unfold State.IndexSorted at hs ⊢
  rw [hindex]
  refine hs.imp fun hgh t' u' ht hu => ?_
  obtain ⟨v, hv, hvb⟩ := hbase _ _ ht
  obtain ⟨w, hw, hwb⟩ := hbase _ _ hu
  rw [← hvb, ← hwb]
  exact hgh v w hv hw

theorem State.GrantListsPartition.of_isFree {s t : State} (hfree : t.freeList = s.freeList) (hindex : t.index = s.index)
    (hg : ∀ g, (t.grant g).body.isFree = (s.grant g).body.isFree) (hs : s.GrantListsPartition) :
    t.GrantListsPartition := by
  simp only [State.GrantListsPartition, hfree, hindex, hg] at hs ⊢
  exact hs

/-! #### Retirement (R22) -/

/-- What a retirement leaves of the lists and of the records. -/
theorem retire_table {g : GrantNum} {s : State} {t : Terms} {c : Closing} (hb : (s.grant g).body = .closing t c) :
    (retire g s).freeList = s.freeList ++ [g] ∧ (retire g s).index = s.index.filter (fun h => h != g) ∧
      (retire g s).memTop = s.memTop ∧
      ∀ h, ((retire g s).grant h) =
        if g = h then { gen := (s.grant g).gen + 1, inFlight := 0, body := .free } else s.grant h := by
  rw [retire_closing hb]
  refine ⟨freeGrant_freeList g t.holder s, freeGrant_index g t.holder s, ?_, fun h => freeGrant_grant g h t.holder s⟩
  obtain ⟨_, _, _, _, h⟩ := freeGrant_only g t.holder s
  rw [placeRecord_memTop, h]

/-- The terms after a retirement are those of the other entries. -/
theorem retire_terms {g : GrantNum} {s : State} {t : Terms} {c : Closing} (hb : (s.grant g).body = .closing t c)
    (h : GrantNum) : ((retire g s).grant h).body.terms? = if g = h then none else (s.grant h).body.terms? := by
  rw [(retire_table hb).2.2.2]
  split <;> rfl

theorem retire_partition {g : GrantNum} {s : State} {t : Terms} {c : Closing} (hb : (s.grant g).body = .closing t c)
    (hs : s.GrantListsPartition) : (retire g s).GrantListsPartition := by
  obtain ⟨hfree, hindex, -, -⟩ := retire_table hb
  obtain ⟨hnodup, hinodup, hmem⟩ := hs
  have hg : g ∉ s.freeList := fun h => by
    have := (hmem g).1.1 h
    rw [hb] at this
    cases this
  refine ⟨?_, ?_, fun h => ?_⟩
  · rw [hfree]
    exact hnodup.append (List.nodup_singleton g) (by simpa using hg)
  · rw [hindex]
    exact hinodup.filter _
  · rw [hfree, hindex, Body.isFree_eq, retire_terms hb]
    by_cases hgh : g = h
    · simp [hgh]
    · simp [hgh, Ne.symm hgh, hmem h, Body.isFree_eq]

theorem retire_sorted {g : GrantNum} {s : State} {t : Terms} {c : Closing} (hb : (s.grant g).body = .closing t c)
    (hs : s.IndexSorted) : (retire g s).IndexSorted := by
  obtain ⟨-, hindex, -, -⟩ := retire_table hb
  unfold State.IndexSorted at hs ⊢
  rw [hindex]
  refine (hs.filter _).imp fun hgh t' u' ht hu => ?_
  rw [retire_terms hb] at ht hu
  split at ht
  · cases ht
  · split at hu
    · cases hu
    · exact hgh t' u' ht hu

/-! #### Allocation (R13, R20) -/

/-- The place at which an entry is inserted: behind every entry that does not come after it. -/
theorem insertIndex_split (s : State) (base : Nat) (g : GrantNum) (l : List GrantNum) :
    ∃ before after, l = before ++ after ∧ s.insertIndex base g l = before ++ g :: after ∧
      (∀ h ∈ before, s.indexBefore base g h = false) ∧ ∀ h ∈ after.head?, s.indexBefore base g h = true := by
  induction l with
  | nil => exact ⟨[], [], rfl, rfl, by simp, by simp⟩
  | cons h rest ih =>
    unfold State.insertIndex
    cases hb : s.indexBefore base g h with
    | true => exact ⟨[], h :: rest, rfl, rfl, by simp, by simp [hb]⟩
    | false =>
      obtain ⟨before, after, hl, hi, hbefore, hafter⟩ := ih
      exact ⟨h :: before, after, by rw [hl]; rfl, by simp [hi], by simpa [hb] using hbefore, hafter⟩

theorem State.indexBefore_terms {s : State} {base : Nat} {g h : GrantNum} {u : Terms}
    (hu : (s.grant h).body.terms? = some u) :
    s.indexBefore base g h = true ↔ base < u.base ∨ (base = u.base ∧ g < h) := by
  simp [State.indexBefore, hu]

/-- An entry of the index has terms. -/
theorem State.GrantListsPartition.terms_of_mem_index {s : State} (hs : s.GrantListsPartition) {g : GrantNum}
    (hg : g ∈ s.index) : ∃ u, (s.grant g).body.terms? = some u := by
  have := ((hs.2.2 g).2).1 hg
  rw [Body.isFree_eq] at this
  exact Option.isSome_iff_exists.1 (by simpa using this)

/-- In a sorted index the entries before an entry's place come before it, and those behind come after it (R13). -/
theorem insertIndex_place {s : State} (hp : s.GrantListsPartition) (hs : s.IndexSorted) {base : Nat} {g : GrantNum}
    (hg : g ∉ s.index) :
    ∃ before after, s.index = before ++ after ∧ s.insertIndex base g s.index = before ++ g :: after ∧
      (∀ k ∈ before, ∀ u, (s.grant k).body.terms? = some u → u.base < base ∨ (u.base = base ∧ k < g)) ∧
      ∀ k ∈ after, ∀ u, (s.grant k).body.terms? = some u → base < u.base ∨ (base = u.base ∧ g < k) := by
  obtain ⟨before, after, hl, hi, hbefore, hafter⟩ := insertIndex_split s base g s.index
  refine ⟨before, after, hl, hi, fun k hk u hu => ?_, fun k hk u hu => ?_⟩
  · have hne : k ≠ g := fun e => hg (by rw [hl, ← e]; exact List.mem_append_left _ hk)
    have hnot := mt (State.indexBefore_terms (base := base) (g := g) hu).2 (by simp [hbefore k hk])
    have hval : k.val ≠ g.val := fun e => hne (Fin.ext e)
    simp only [Fin.lt_def] at hnot ⊢
    omega
  · cases after with
    | nil => cases hk
    | cons h rest =>
      obtain ⟨v, hv⟩ := hp.terms_of_mem_index (g := h) (by rw [hl]; simp)
      have hfirst := (State.indexBefore_terms hv).1 (hafter h (by simp))
      obtain rfl | hrest := List.mem_cons.1 hk
      · rw [hu] at hv; cases hv; exact hfirst
      · unfold State.IndexSorted at hs
        rw [hl] at hs
        have hlater := List.rel_of_pairwise_cons (List.pairwise_append.1 hs).2.1 hrest v u hv hu
        simp only [Fin.lt_def] at hfirst hlater ⊢
        omega

theorem allocate_index (g : GrantNum) (rest : List GrantNum) (t : Terms) (s : State) :
    (allocate g rest t s).index = s.insertIndex t.base g s.index := by
  obtain ⟨slots, h⟩ := allocate_only g rest t s
  rw [h]

theorem allocate_memTop (g : GrantNum) (rest : List GrantNum) (t : Terms) (s : State) :
    (allocate g rest t s).memTop = s.memTop := by
  obtain ⟨slots, h⟩ := allocate_only g rest t s
  rw [h]; rfl

/-- The terms after an allocation. -/
theorem allocate_terms (g h : GrantNum) (rest : List GrantNum) (t : Terms) (s : State) :
    ((allocate g rest t s).grant h).body.terms? = if g = h then some t else (s.grant h).body.terms? := by
  rw [allocate_grant]
  split <;> rfl

theorem mem_insertIndex (s : State) (base : Nat) (g h : GrantNum) (l : List GrantNum) :
    h ∈ s.insertIndex base g l ↔ h = g ∨ h ∈ l := by
  obtain ⟨before, after, hl, hi, -, -⟩ := insertIndex_split s base g l
  rw [hi, hl]
  simp only [List.mem_append, List.mem_cons]
  tauto

/-- The head of the free list is FREE, and so not in the index (R10, R15). -/
theorem State.GrantListsPartition.head_free {s : State} (hs : s.GrantListsPartition) {g : GrantNum}
    {rest : List GrantNum} (hl : s.freeList = g :: rest) : (s.grant g).body = .free ∧ g ∉ s.index := by
  have hfree := (hs.mem_freeList g).1 (by rw [hl]; simp)
  refine ⟨?_, fun h => ?_⟩
  · cases hb : (s.grant g).body with
    | free => rfl
    | live | closing => rw [hb] at hfree; cases hfree
  · rw [((hs.2.2 g).2).1 h] at hfree
    cases hfree

theorem allocate_partition {g : GrantNum} {rest : List GrantNum} {t : Terms} {s : State} (hl : s.freeList = g :: rest)
    (hs : s.GrantListsPartition) : (allocate g rest t s).GrantListsPartition := by
  obtain ⟨-, hg⟩ := hs.head_free hl
  obtain ⟨hnodup, hinodup, hmem⟩ := hs
  rw [hl, List.nodup_cons] at hnodup
  refine ⟨?_, ?_, fun h => ?_⟩
  · rw [allocate_freeList]; exact hnodup.2
  · rw [allocate_index]
    obtain ⟨before, after, hi, hins, -, -⟩ := insertIndex_split s t.base g s.index
    rw [hins, List.nodup_middle, List.nodup_cons, ← hi]
    exact ⟨hg, hinodup⟩
  · rw [allocate_freeList, allocate_index, mem_insertIndex, Body.isFree_eq, allocate_terms]
    by_cases hgh : g = h
    · subst hgh
      simp [hnodup.1]
    · have hrest : h ∈ rest ↔ h ∈ s.freeList := by rw [hl, List.mem_cons]; simp [Ne.symm hgh]
      simp [hgh, Ne.symm hgh, hrest, hmem h, Body.isFree_eq]

theorem allocate_sorted {g : GrantNum} {rest : List GrantNum} {t : Terms} {s : State} (hl : s.freeList = g :: rest)
    (hp : s.GrantListsPartition) (hs : s.IndexSorted) : (allocate g rest t s).IndexSorted := by
  obtain ⟨-, hg⟩ := hp.head_free hl
  obtain ⟨before, after, hi, hins, hbefore, hafter⟩ := insertIndex_place hp hs (base := t.base) hg
  have hother : ∀ k ∈ s.index, ((allocate g rest t s).grant k).body.terms? = (s.grant k).body.terms? := fun k hk => by
    rw [allocate_terms, if_neg (by rintro rfl; exact hg hk)]
  have hself : ((allocate g rest t s).grant g).body.terms? = some t := by rw [allocate_terms, if_pos rfl]
  have hold : s.index.Pairwise fun k h => ∀ t' u',
      ((allocate g rest t s).grant k).body.terms? = some t' → ((allocate g rest t s).grant h).body.terms? = some u' →
        t'.base < u'.base ∨ (t'.base = u'.base ∧ k < h) :=
    List.Pairwise.imp_of_mem (fun hk hh hkh t' u' => by rw [hother _ hk, hother _ hh]; exact hkh t' u') hs
  rw [hi] at hold hother
  unfold State.IndexSorted
  rw [allocate_index, hins]
  obtain ⟨hbb, haa, hba⟩ := List.pairwise_append.1 hold
  refine List.pairwise_append.2
    ⟨hbb, List.pairwise_cons.2 ⟨fun k hk t' u' ht hu => ?_, haa⟩, fun k hk h hh t' u' ht hu => ?_⟩
  · rw [hself] at ht; cases ht
    rw [hother k (List.mem_append_right _ hk)] at hu
    exact hafter k hk u' hu
  · obtain rfl | hh := List.mem_cons.1 hh
    · rw [hself] at hu; cases hu
      rw [hother k (List.mem_append_left _ hk)] at ht
      exact hbefore k hk t' ht
    · exact hba k hk h hh t' u' ht hu

/-! #### The countdown, and the terms of one LIVE grant replaced -/

/-- Replacing the terms of a LIVE grant by others at the same base keeps the lists sound. -/
theorem setBody_live_listsSound {s : State} {g : GrantNum} {t u : Terms} (hb : (s.grant g).body = .live t)
    (hbase : u.base = t.base) (hs : s.ListsSound) : (s.setBody g (.live u)).ListsSound := by
  refine ⟨.of_isFree (s := s) rfl rfl (fun k => ?_) hs.1,
    .of_bases (s := s) rfl (fun k v hv => ?_) hs.2⟩
  · rw [State.grant_setBody]
    split
    · next e => rw [← e, hb]; rfl
    · rfl
  · rw [State.grant_setBody] at hv
    split at hv
    · next e => cases hv; exact ⟨t, by rw [← e, hb]; rfl, hbase.symm⟩
    · exact ⟨v, hv, rfl⟩

/-- A record's terms after the countdown (R28). -/
theorem Grant.countDown_terms (x : Grant) :
    x.countDown.body.terms? =
      match x.body with
      | .live t => some { t with remaining := t.remaining.map (fun n => n - 1) }
      | b => b.terms? := by
  cases hb : x.body <;> simp [Grant.countDown, hb, Body.terms?]

theorem countDownAll_grant (s : State) (g : GrantNum) : (countDownAll s).grant g = (s.grant g).countDown := by
  simp [countDownAll, State.grant]

theorem countDownAll_listsSound {s : State} (hs : s.ListsSound) : (countDownAll s).ListsSound := by
  refine ⟨.of_isFree (s := s) rfl rfl (fun k => ?_) hs.1,
    .of_bases (s := s) rfl (fun k v hv => ?_) hs.2⟩
  · rw [countDownAll_grant, Body.isFree_eq, Body.isFree_eq, Grant.countDown_terms]
    split
    · next hb => rw [hb]; rfl
    · rfl
  · rw [countDownAll_grant, Grant.countDown_terms] at hv
    split at hv
    · next t hb => cases hv; exact ⟨t, by rw [hb]; rfl, rfl⟩
    · exact ⟨v, hv, rfl⟩

theorem State.ListsSound.of_same {s t : State} (h : SameTerms s t) (hs : s.ListsSound) : t.ListsSound :=
  ⟨.of_same h hs.1, .of_same h hs.2⟩

theorem closeAll_sameTerms (cause : Cause) (gs : List GrantNum) (s : State) : SameTerms s (closeAll cause gs s) :=
  foldl_sameTerms (fun s g => closeGrant_sameTerms cause g s) gs s

/-- Every act keeps the lists sound. -/
theorem TermsMove.listsSound {s t : State} (h : TermsMove s t) (hs : s.ListsSound) : t.ListsSound := by
  cases h with
  | same h => exact .of_same h hs
  | retires h hb =>
    have hu := State.ListsSound.of_same h hs
    exact ⟨retire_partition hb hu.1, retire_sorted hb hu.2⟩
  | countsDown => exact .of_same (closeAll_sameTerms ..) (countDownAll_listsSound hs)
  | renews hb => exact setBody_live_listsSound hb rfl hs
  | amends hb => exact setBody_live_listsSound hb rfl hs
  | issues _ _ _ hl => exact ⟨allocate_partition hl hs.1, allocate_sorted hl hs.1 hs.2⟩
  | setsLimits => exact hs

/-! ### The parts of a move that are no acts -/

/-- A table in which every entry is FREE and on the free list, which holds all of them, and the index empty. -/
theorem listsSound_all_free {s : State} (hg : ∀ g, (s.grant g).body = .free)
    (hl : s.freeList.Perm (List.finRange 512)) (hi : s.index = []) : s.ListsSound := by
  refine ⟨⟨hl.nodup_iff.2 (List.nodup_finRange 512), by rw [hi]; simp, fun g => ?_⟩, by
    unfold State.IndexSorted; rw [hi]; exact .nil⟩
  rw [hg, hi, hl.mem_iff]
  simp [Body.isFree]

theorem powerOn_listsSound (low out : Bool) (straps : BitVec 6) (s : State) : (powerOn low out straps s).ListsSound :=
  listsSound_all_free (fun g => by rw [powerOn_grant]; rfl) (by rw [powerOn_freeList]) rfl

theorem engineReset_body (s : State) (g : GrantNum) : ((engineReset s).grant g).body = .free := by
  rw [engineReset_grant, Grant.engineReset_body]

theorem engineReset_listsSound {s : State} (hs : s.ListsSound) : (engineReset s).ListsSound :=
  listsSound_all_free (engineReset_body s) (rebuiltFreeList_perm hs.1) rfl

theorem acceptWrite_sameTerms (op : LineOp) (res : LineResult) (s : State) : SameTerms s (acceptWrite op res s) := by
  obtain ⟨_, h⟩ := acceptWrite_only op res s
  rw [h]
  exact .of_table rfl

theorem listsSound_kept : Kept State.ListsSound where
  act h hs := h.termsMove.listsSound hs
  pending _ _ hs := hs
  power low out straps s _ := powerOn_listsSound low out straps s
  reset _ hs := engineReset_listsSound hs
  free _ _ _ _ _ hs := hs
  place s _ rest _ _ hs := (placeBacklogHead_termsMove { s with cq := rest }).listsSound hs
  line s _ op res _ hs := .of_same (acceptWrite_sameTerms op res { s with port := .free }) hs

/-- The two lists of a partition have 512 entries between them (R15). -/
theorem State.GrantListsPartition.length_sum {s : State} (hs : s.GrantListsPartition) :
    s.freeList.length + s.index.length = 512 := by
  have hperm : (s.freeList ++ s.index).Perm (List.finRange 512) := by
    refine (List.perm_ext_iff_of_nodup (hs.1.append hs.2.1 fun g hf hi => ?_) (List.nodup_finRange 512)).2 fun g => ?_
    · have h1 := ((hs.2.2 g).1).1 hf
      rw [((hs.2.2 g).2).1 hi] at h1
      cases h1
    · rw [List.mem_append, (hs.2.2 g).1, (hs.2.2 g).2]
      cases (s.grant g).body.isFree <;> simp
  rw [← List.length_append, hperm.length_eq, List.length_finRange]

/-- Settles O54: every part of a step keeps the lists a partition and the index sorted. -/
theorem listsPartitionKept : Obligations.ListsPartitionKept := by
  intro s t hpart hsorted hstep
  obtain ⟨htpart, htsorted⟩ := listsSound_kept.step hstep ⟨hpart, hsorted⟩
  exact ⟨htpart, htpart.length_sum, htsorted⟩

end Sys2Proof.Machine
end


section
/-! PROOFS. The granted windows (R2, R3, R16): no two conflict, each ends at or below MEM_TOP, and the terms of the
grants stay in their ranges. -/

namespace Sys2Proof.Machine

/-! ### The conflict rule -/

/-- The conflict rule reads the same both ways (R16). -/
theorem windowsConflict_comm (t u : Terms) : windowsConflict t u = windowsConflict u t := by
  unfold windowsConflict
  refine decide_eq_decide.2 ?_
  rw [and_comm (a := t.base < u.base + u.length), ne_comm, or_left_comm, or_comm (a := t.rights ≠ .read)]

/-- Terms with the window and the holder of others, and rights among theirs, conflict with nothing that those do not
conflict with. -/
theorem windowsConflict_mono {t u v : Terms} (hb : u.base = t.base) (hl : u.length ≤ t.length)
    (hh : u.holder = t.holder) (hr : u.rights ≠ .read → t.rights ≠ .read) (h : windowsConflict t v = false) :
    windowsConflict u v = false := by
  unfold windowsConflict at h ⊢
  rw [decide_eq_false_iff_not] at h ⊢
  rintro ⟨⟨h1, h2⟩, h3, h4⟩
  refine h ⟨⟨by omega, by omega⟩, hh ▸ h3, h4.imp_left hr⟩

/-- Without a first conflict no entry of the index but the skipped one conflicts (R17, R18). -/
theorem State.no_conflict {s : State} (hp : s.GrantListsPartition) {skip : Option GrantNum} {t : Terms}
    (h : s.firstConflict skip t = none) {k : GrantNum} (hk : some k ≠ skip) {u : Terms}
    (hu : (s.grant k).body.terms? = some u) : windowsConflict t u = false := by
  have hindex : k ∈ s.index := (hp.2.2 k).2.2 (by rw [Body.isFree_eq, hu]; rfl)
  have := List.find?_eq_none.1 h k hindex
  simpa [hu, hk, Terms.conflicts_eq] using this

/-! ### Ranges -/

/-- The terms of a LIVE or CLOSING grant are in range (R3, R19). -/
def Terms.InRange (t : Terms) : Prop :=
  1 ≤ t.length ∧ t.length ≤ 65536 ∧ t.credits ≤ 15 ∧ (0 < t.credits → t.renewAmount.isSome = true)

/-- The remaining lifetime of a LIVE grant is in range (R3). -/
def Terms.LifetimeInRange (t : Terms) : Prop := ∀ n, t.remaining = some n → 1 ≤ n ∧ n ≤ 65535

/-- The granted windows are safe: no conflict, none above MEM_TOP, and the terms in range. -/
structure State.WindowsSafe (s : State) : Prop where
  partition : s.GrantListsPartition
  compatible : s.WindowsCompatible
  below : s.WindowsBelowMemTop
  range : ∀ g t, (s.grant g).body.terms? = some t → t.InRange
  lifetime : ∀ g t, (s.grant g).body = .live t → t.LifetimeInRange

theorem State.WindowsSafe.of_same {s t : State} (h : SameTerms s t) (hs : s.WindowsSafe) : t.WindowsSafe where
  partition := .of_same h hs.partition
  compatible g k hne u v hu hv := hs.compatible g k hne u v (h.terms g ▸ hu) (h.terms k ▸ hv)
  below g u hu := by
    rw [h.memTop]
    exact hs.below g u (h.terms g ▸ hu)
  range g u hu := hs.range g u (h.terms g ▸ hu)
  lifetime g u hu := hs.lifetime g u (h.live g u hu)

/-- A retired entry takes its window out of the table (R22). -/
theorem State.WindowsSafe.retire {s : State} {g : GrantNum} {t : Terms} {c : Closing}
    (hb : (s.grant g).body = .closing t c) (hs : s.WindowsSafe) : (retire g s).WindowsSafe := by
  have hterms : ∀ h u, ((Machine.retire g s).grant h).body.terms? = some u → (s.grant h).body.terms? = some u :=
    fun h u hu => by
      rw [retire_terms hb] at hu
      split at hu
      · cases hu
      · exact hu
  obtain ⟨-, -, htop, hgrant⟩ := retire_table hb
  refine ⟨retire_partition hb hs.partition,
    fun h k hne u v hu hv => hs.compatible h k hne u v (hterms h u hu) (hterms k v hv),
    fun h u hu => htop ▸ hs.below h u (hterms h u hu), fun h u hu => hs.range h u (hterms h u hu), fun h u hu => ?_⟩
  rw [hgrant] at hu
  split at hu
  · cases hu
  · exact hs.lifetime h u hu

/-- One entry LIVE under new terms that conflict with no other: allocation, and the replacement of a LIVE grant's
terms. -/
theorem State.WindowsSafe.write {s s' : State} {g : GrantNum} {u : Terms} (hs : s.WindowsSafe)
    (hp : s'.GrantListsPartition) (htop : s'.memTop = s.memTop)
    (hbody : ∀ h, (s'.grant h).body = if g = h then .live u else (s.grant h).body)
    (hconflict : ∀ h v, h ≠ g → (s.grant h).body.terms? = some v → windowsConflict u v = false)
    (hbelow : u.base + u.length ≤ s.memTop) (hrange : u.InRange) (hlife : u.LifetimeInRange) : s'.WindowsSafe := by
  have hterms : ∀ h, (s'.grant h).body.terms? = if g = h then some u else (s.grant h).body.terms? := fun h => by
    rw [hbody]
    split <;> rfl
  refine ⟨hp, fun h k hne v w hv hw => ?_, fun h v hv => ?_, fun h v hv => ?_, fun h v hv => ?_⟩
  · rw [hterms] at hv hw
    split at hv
    · next e =>
      cases hv
      rw [if_neg (by rintro rfl; exact hne e.symm)] at hw
      exact hconflict k w (by rintro rfl; exact hne e.symm) hw
    · split at hw
      · next e =>
        cases hw
        rw [windowsConflict_comm]
        exact hconflict h v (by rintro rfl; exact hne e) hv
      · exact hs.compatible h k hne v w hv hw
  · rw [hterms] at hv
    rw [htop]
    split at hv
    · cases hv; exact hbelow
    · exact hs.below h v hv
  · rw [hterms] at hv
    split at hv
    · cases hv; exact hrange
    · exact hs.range h v hv
  · rw [hbody] at hv
    split at hv
    · cases hv; exact hlife
    · exact hs.lifetime h v hv

/-- The terms of a LIVE grant replaced by others at the same base. -/
theorem State.WindowsSafe.setBody {s : State} {g : GrantNum} {t u : Terms} (hs : s.WindowsSafe)
    (hb : (s.grant g).body = .live t)
    (hconflict : ∀ h v, h ≠ g → (s.grant h).body.terms? = some v → windowsConflict u v = false)
    (hbelow : u.base + u.length ≤ s.memTop) (hrange : u.InRange) (hlife : u.LifetimeInRange) :
    (s.setBody g (.live u)).WindowsSafe := by
  have hbody : ∀ h, ((s.setBody g (.live u)).grant h).body = if g = h then .live u else (s.grant h).body := fun h => by
    rw [State.grant_setBody]
    split <;> rfl
  refine hs.write (.of_isFree (s := s) rfl rfl (fun k => ?_) hs.partition) rfl hbody hconflict hbelow hrange hlife
  rw [hbody]
  split
  · next e => rw [← e, hb]; rfl
  · rfl

/-! ### RENEW, AMEND and ISSUE -/

theorem State.WindowsSafe.renew {s : State} {g : GrantNum} {t : Terms} {n : Nat} (hs : s.WindowsSafe)
    (hb : (s.grant g).body = .live t) (hn : t.remaining = some n) :
    (s.setBody g
      (.live
        { t with
          remaining := some (min (n + t.renewAmount.getD 0) Config.maxLifetime)
          credits := t.credits - 1 })).WindowsSafe := by
  have hterms : (s.grant g).body.terms? = some t := by rw [hb]; rfl
  obtain ⟨h1, h2, h3, h4⟩ := hs.range g t hterms
  refine hs.setBody hb (fun h v hne hv => ?_) (hs.below g t hterms) ⟨h1, h2, by simp only; omega, fun h => h4 ?_⟩
    fun m hm => ?_
  · exact windowsConflict_mono rfl (Nat.le_refl _) rfl id (hs.compatible g h hne.symm t v hterms hv)
  · simp only at h; omega
  · have := hs.lifetime g t hb n hn
    simp only [Option.some.injEq, Config.maxLifetime] at hm
    omega

/-- The fields of an AMEND that passes its range check (R147, check 2). -/
theorem amendBadField_false {f : AmendFields} {t : Terms} (h : amendBadField f t = false) :
    (f.lifetimeAction = 1 → f.lifetime.toNat ≠ 0) ∧
      (f.lengthSet = true → f.length.toNat ≠ 0 ∧ f.length.toNat ≤ 65536) ∧
      (0 < amendedCredits f t → f.renewSet = false → t.renewAmount.isSome = true) := by
  simp only [amendBadField, Bool.or_eq_false_iff, Bool.and_eq_false_imp, beq_iff_eq, decide_eq_false_iff_not,
    beq_eq_false_iff_ne, decide_eq_true_eq, Bool.not_eq_true', Bool.and_eq_true] at h
  obtain ⟨⟨⟨⟨⟨⟨-, hlife⟩, -⟩, -⟩, -⟩, hlength⟩, hrenew⟩ := h
  refine ⟨hlife, fun hl => ?_, fun hc hn => ?_⟩
  · have := hlength hl
    simpa [Config.maxLength] using this
  · simpa [Option.isSome_iff_ne_none] using hrenew ⟨hc, hn⟩

theorem State.WindowsSafe.amend {s : State} {f : AmendFields} {g : GrantNum} {t : Terms} (hs : s.WindowsSafe)
    (hb : (s.grant g).body = .live t) (hf : amendBadField f t = false)
    (hw : ¬ (f.lengthSet = true ∧ s.memTop < (amendedTerms f t).windowEnd))
    (hc : (if widens t (amendedTerms f t) then s.firstConflict (some g) (amendedTerms f t) else none) = none) :
    (s.setBody g (.live (amendedTerms f t))).WindowsSafe := by
  have hterms : (s.grant g).body.terms? = some t := by rw [hb]; rfl
  obtain ⟨h1, h2, h3, h4⟩ := hs.range g t hterms
  obtain ⟨hlife, hlength, hrenew⟩ := amendBadField_false hf
  have hbelow := hs.below g t hterms
  refine hs.setBody hb (fun h v hne hv => ?_) ?_ ⟨?_, ?_, ?_, fun h => ?_⟩ fun m hm => ?_
  · split at hc
    · exact s.no_conflict hs.partition hc (by simpa using hne) hv
    · next hnarrow =>
      simp only [widens, Bool.or_eq_true, Bool.and_eq_true, decide_eq_true_eq, Bool.not_eq_true', not_or, not_and,
        Bool.not_eq_false, Rights.hasWrite_iff, Nat.not_lt] at hnarrow
      exact windowsConflict_mono (t := t) rfl hnarrow.1 rfl hnarrow.2 (hs.compatible g h hne.symm t v hterms hv)
  · simp only [Terms.windowEnd, amendedTerms] at hw ⊢
    cases hl : f.lengthSet <;> simp only [hl, if_true, Bool.false_eq_true, if_false, true_and, Nat.not_lt] at hw ⊢
    · exact hbelow
    · exact hw
  · simp only [amendedTerms]
    split
    · next hl => have := hlength hl; omega
    · exact h1
  · simp only [amendedTerms]
    split
    · next hl => exact (hlength hl).2
    · exact h2
  · simp only [amendedTerms, amendedCredits, Config.maxCredits]
    omega
  · simp only [amendedTerms] at h ⊢
    split
    · rfl
    · next hset => exact hrenew h (by simpa [h] using hset)
  · simp only [amendedTerms] at hm
    have hbits := f.lifetime.isLt
    split at hm
    · next ha => have := hlife ha; simp only [Option.some.injEq] at hm; omega
    · split at hm
      · cases hm
      · exact hs.lifetime g t hb m hm

/-- The fields of an ISSUE that passes its range check fill a record in range (R19, check 1). -/
theorem issueTerms_inRange {f : IssueFields} (rights : Rights) (h : issueBadField f = false) :
    (issueTerms f rights).InRange ∧ (issueTerms f rights).LifetimeInRange := by
  simp only [issueBadField, Bool.or_eq_false_iff, Bool.and_eq_false_imp, decide_eq_false_iff_not, beq_eq_false_iff_ne,
    decide_eq_true_eq] at h
  obtain ⟨⟨⟨⟨⟨-, hzero⟩, hmax⟩, -⟩, hlife⟩, hcredits⟩ := h
  have hbits := f.credits.isLt
  have hlbits := f.lifetime.isLt
  refine ⟨⟨?_, ?_, ?_, fun hc => ?_⟩, fun n hn => ?_⟩
  · simp only [issueTerms]; omega
  · simp only [issueTerms, Config.maxLength] at hmax ⊢; omega
  · simp only [issueTerms]; omega
  · simp only [issueTerms] at hc ⊢
    rw [if_neg (by omega)]
    rfl
  · simp only [issueTerms] at hn
    split at hn
    · next hp => have := hlife hp; simp only [Option.some.injEq] at hn; omega
    · cases hn

theorem State.WindowsSafe.issue {s : State} {f : IssueFields} {rights : Rights} {g : GrantNum} {rest : List GrantNum}
    (hs : s.WindowsSafe) (hf : issueBadField f = false) (hw : ¬ s.memTop < (issueTerms f rights).windowEnd)
    (hc : s.firstConflict none (issueTerms f rights) = none) (hl : s.freeList = g :: rest) :
    (allocate g rest (issueTerms f rights) s).WindowsSafe := by
  obtain ⟨hrange, hlife⟩ := issueTerms_inRange rights hf
  refine hs.write (g := g) (allocate_partition hl hs.partition) (allocate_memTop g rest _ s) (fun h => ?_)
    (fun h v _ hv => s.no_conflict hs.partition hc (by simp) hv) (Nat.not_lt.1 hw) hrange hlife
  rw [allocate_grant]
  split <;> rfl

/-! ### A tick's countdown and expiry (R28, R29) -/

/-- A LIVE grant that the countdown and the expiry leave LIVE has a lifetime left. -/
theorem countDown_expire_live {s : State} {g : GrantNum} {u : Terms}
    (h : ((closeAll .expired (countDownAll s).runOut (countDownAll s)).grant g).body = .live u) :
    ∃ t, (s.grant g).body = .live t ∧ u = { t with remaining := t.remaining.map (fun n => n - 1) } ∧
      u.remaining ≠ some 0 := by
  rw [closeAll_grant] at h
  split at h
  · have := Grant.closed_isLive ((countDownAll s).grant g) .expired
    rw [h] at this
    cases this
  · next hout =>
    have hrun : ((countDownAll s).grant g).hasRunOut = false := by
      simpa [State.runOut, List.mem_filter] using hout
    simp only [Grant.hasRunOut, h, beq_eq_false_iff_ne] at hrun
    rw [countDownAll_grant] at h
    cases hb : (s.grant g).body with
    | free | closing => simp [Grant.countDown, hb] at h
    | live t =>
      simp only [Grant.countDown, hb, Body.live.injEq] at h
      exact ⟨t, rfl, h.symm, hrun⟩

/-- An entry's terms after the countdown and the expiry are its own, but for the remaining lifetime. -/
theorem countDown_expire_terms {s : State} {g : GrantNum} {u : Terms}
    (h : ((closeAll .expired (countDownAll s).runOut (countDownAll s)).grant g).body.terms? = some u) :
    ∃ t, (s.grant g).body.terms? = some t ∧ u = { t with remaining := u.remaining } := by
  rw [(closeAll_sameTerms ..).terms, countDownAll_grant, Grant.countDown_terms] at h
  split at h
  · next t hb => cases h; exact ⟨t, by rw [hb]; rfl, rfl⟩
  · exact ⟨u, h, rfl⟩

theorem State.WindowsSafe.countDown {s : State} (hs : s.WindowsSafe) :
    (closeAll .expired (countDownAll s).runOut (countDownAll s)).WindowsSafe := by
  refine ⟨?_, fun g h hne u v hu hv => ?_, fun g u hu => ?_, fun g u hu => ?_, fun g u hu n hn => ?_⟩
  · refine .of_same (closeAll_sameTerms ..) (.of_isFree (s := s) rfl rfl (fun k => ?_) hs.partition)
    rw [countDownAll_grant, Body.isFree_eq, Body.isFree_eq, Grant.countDown_terms]
    split
    · next hb => rw [hb]; rfl
    · rfl
  · obtain ⟨t, ht, hut⟩ := countDown_expire_terms hu
    obtain ⟨w, hw, hvw⟩ := countDown_expire_terms hv
    have := hs.compatible g h hne t w ht hw
    rw [hut, hvw]
    exact this
  · obtain ⟨t, ht, hut⟩ := countDown_expire_terms hu
    rw [(closeAll_sameTerms ..).memTop, hut]
    exact hs.below g t ht
  · obtain ⟨t, ht, hut⟩ := countDown_expire_terms hu
    rw [hut]
    exact hs.range g t ht
  · obtain ⟨t, hb, rfl, hzero⟩ := countDown_expire_live hu
    obtain ⟨m, hm, rfl⟩ := Option.map_eq_some_iff.1 hn
    have := hs.lifetime g t hb m hm
    simp only [hm, Option.map_some, ne_eq, Option.some.injEq] at hzero
    omega

/-! ### MEM_TOP (R157) -/

/-- A running maximum is at least its start. -/
theorem le_foldl_max {α : Type} (f : α → Option Nat) (l : List α) (m : Nat) :
    m ≤ l.foldl (fun m a => match f a with | some n => max m n | none => m) m := by
  induction l generalizing m with
  | nil => exact Nat.le_refl m
  | cons a l ih =>
    refine Nat.le_trans ?_ (ih _)
    cases hfa : f a <;> simp only [hfa, Nat.le_refl, Nat.le_max_left]

/-- A running maximum is at least every entry. -/
theorem mem_le_foldl_max {α : Type} (f : α → Option Nat) {l : List α} {a : α} (ha : a ∈ l) {n : Nat} (hn : f a = some n)
    (m : Nat) : n ≤ l.foldl (fun m a => match f a with | some n => max m n | none => m) m := by
  induction l generalizing m with
  | nil => cases ha
  | cons b l ih =>
    obtain rfl | ha := List.mem_cons.1 ha
    · refine Nat.le_trans ?_ (le_foldl_max f l _)
      simp only [hn, Nat.le_max_right]
    · exact ih ha _

/-- The highest window end as a running maximum of window ends. -/
theorem State.highestEnd_eq (s : State) :
    s.highestEnd = s.index.foldl
      (fun m g => match (s.grant g).body.terms?.map Terms.windowEnd with | some n => max m n | none => m) 0 := by
  unfold State.highestEnd
  congr 1
  funext m g
  cases (s.grant g).body.terms? <;> rfl

/-- Every window of an entry of the index ends at or below the highest end (R14). -/
theorem State.le_highestEnd {s : State} {g : GrantNum} {t : Terms} (hg : g ∈ s.index)
    (ht : (s.grant g).body.terms? = some t) : t.windowEnd ≤ s.highestEnd := by
  rw [State.highestEnd_eq]
  exact mem_le_foldl_max (fun g => (s.grant g).body.terms?.map Terms.windowEnd) hg (by rw [ht]; rfl) 0

theorem State.WindowsSafe.setLimits {s : State} {memTop quota : Nat} {policy : Policy} (hs : s.WindowsSafe)
    (hm : memTop = s.memTop ∨ (s.highestEnd ≤ memTop ∧ memTop ≤ Config.lineLimit)) :
    ({ s with memTop := memTop, policy := policy, defaultQuota := quota } : State).WindowsSafe where
  partition := hs.partition
  compatible := hs.compatible
  below g t ht := by
    obtain rfl | ⟨hm, -⟩ := hm
    · exact hs.below g t ht
    · have hindex : g ∈ s.index := (hs.partition.2.2 g).2.2 (by
        rw [Body.isFree_eq, show (s.grant g).body.terms? = some t from ht]; rfl)
      exact Nat.le_trans (State.le_highestEnd hindex ht) hm
  range := hs.range
  lifetime := hs.lifetime

/-! ### Every part of a step -/

theorem TermsMove.windowsSafe {s t : State} (h : TermsMove s t) (hs : s.WindowsSafe) : t.WindowsSafe := by
  cases h with
  | same h => exact .of_same h hs
  | retires h hb => exact (hs.of_same h).retire hb
  | countsDown => exact hs.countDown
  | renews hb hn => exact hs.renew hb hn
  | amends hb hf hw hc => exact hs.amend hb hf hw hc
  | issues hf hw hc hl => exact hs.issue hf hw hc hl
  | setsLimits hm => exact hs.setLimits hm

/-- With every entry FREE there is no window. -/
theorem windowsSafe_all_free {s : State} (hp : s.GrantListsPartition) (hg : ∀ g, (s.grant g).body = .free) :
    s.WindowsSafe := by
  have hterms : ∀ g t, (s.grant g).body.terms? ≠ some t := fun g t => by rw [hg]; simp [Body.terms?]
  exact ⟨hp, fun g _ _ t _ ht => absurd ht (hterms g t), fun g t ht => absurd ht (hterms g t),
    fun g t ht => absurd ht (hterms g t), fun g t ht => by rw [hg] at ht; cases ht⟩

theorem windowsSafe_kept : Kept State.WindowsSafe where
  act h hs := h.termsMove.windowsSafe hs
  pending s _ hs := .of_same (s := s) (.of_table rfl) hs
  power low out straps s _ :=
    windowsSafe_all_free (powerOn_listsSound low out straps s).1 fun g => by rw [powerOn_grant]; rfl
  reset s hs :=
    windowsSafe_all_free
      (listsSound_all_free (engineReset_body s) (rebuiltFreeList_perm hs.partition) rfl).1 (engineReset_body s)
  free s _ _ _ _ hs := .of_same (s := s) (.of_table rfl) hs
  place s _ rest _ _ hs := (placeBacklogHead_termsMove { s with cq := rest }).windowsSafe
    (.of_same (s := s) (.of_table rfl) hs)
  line s _ op res _ hs :=
    State.WindowsSafe.of_same (acceptWrite_sameTerms op res { s with port := .free })
      (.of_same (s := s) (.of_table rfl) hs)

/-- Settles O55: the tests of ISSUE, AMEND and SET_LIMITS are what keeps the windows apart, below MEM_TOP and in
range. -/
theorem grantedWindowsStaySafe : Obligations.GrantedWindowsStaySafe := by
  intro s t hpart hcompatible hbelow ⟨hrange, hlife⟩ hstep
  have ht := windowsSafe_kept.step hstep ⟨hpart, hcompatible, hbelow, hrange, fun g t hb n hn => hlife g t n hb hn⟩
  exact ⟨ht.compatible, ht.below, ht.range, fun g t n hb hn => ht.lifetime g t hb n hn⟩

end Sys2Proof.Machine
end


section
/-! PROOFS. The state after power-on reset has every invariant; and the in-flight counts, which a context reply in the
reply queue of a context that is still in its memory phase makes wrong. -/

namespace Sys2Proof.Machine

/-! ### The state after power-on reset -/

@[simp] theorem State.reset_grant (g : GrantNum) : State.reset.grant g = Grant.initial := by
  simp [State.grant, State.reset]

@[simp] theorem State.reset_slot (sl : SlotNum) : State.reset.slot sl = Slot.initial := by
  simp [State.slot, State.reset]

@[simp] theorem State.reset_ctx (c : CtxNum) : State.reset.ctx c = Ctx.initial := by
  simp [State.ctx, State.reset]

theorem State.reset_freeList : State.reset.freeList = List.finRange 512 := by
  simp only [State.reset]

theorem reset_listsSound : State.reset.ListsSound :=
  listsSound_all_free (fun g => by rw [State.reset_grant]; rfl) (by rw [State.reset_freeList]) rfl

theorem reset_windowsSafe : State.reset.WindowsSafe :=
  windowsSafe_all_free reset_listsSound.1 fun g => by rw [State.reset_grant]; rfl

theorem reset_queuesSound : State.reset.QueuesSound := by
  refine ⟨?_, ?_, fun h => absurd rfl h, List.nodup_nil, fun e he => absurd he List.not_mem_nil⟩ <;>
    exact Nat.zero_le _

theorem reset_allIdle : State.reset.allIdle = true :=
  (State.allIdle_iff _).2 fun c => by rw [State.reset_ctx]; rfl

theorem reset_quietLink : State.reset.QuietLink := fun _ =>
  ⟨rfl, rfl, rfl, rfl, rfl, fun sl => by rw [State.reset_slot]; rfl,
    fun c => by rw [State.reset_ctx]; simp [Ctx.initial]⟩

theorem reset_offersSound : State.reset.OffersSound := by
  refine ⟨List.nodup_nil, fun sl => ?_⟩
  rw [State.reset_slot]
  constructor <;> constructor
  · exact fun h => absurd h List.not_mem_nil
  · rintro ⟨f, hf⟩; cases hf
  · intro h; cases h
  · rintro ⟨f, hf⟩; cases hf

theorem reset_portEager : State.reset.PortEager := fun _ c => by rw [State.reset_ctx]; rfl

theorem reset_inFlightCounted : State.reset.InFlightCounted := by
  intro g
  have hc : Ctx.initial.inMemoryPhase = false := rfl
  simp [hc, Grant.initial]

theorem reset_findSlot (n : StationNum) : State.reset.findSlot n = none := by
  simp [State.findSlot, Slot.names, Slot.initial]

theorem reset_heldCounted : State.reset.HeldCounted := by
  intro n
  simp [reset_findSlot, Grant.initial, Body.holder?, Body.terms?]

theorem reset_stationsDistinct : State.reset.StationsDistinct := by
  intro sl _ x _ h
  simp [Slot.initial] at h

theorem reset_noticeQueuesSound : State.reset.NoticeQueuesSound := by
  intro sl
  simp [Slot.initial]

theorem reset_settingsInRange : State.reset.SettingsInRange := by
  unfold State.SettingsInRange
  decide

/-- Settles O53: with every entry FREE, every slot VACANT, every context IDLE and every queue empty there is nothing
that an invariant could speak of. -/
theorem resetHoldsInvariants : Obligations.ResetHoldsInvariants :=
  ⟨reset_listsSound.1, reset_listsSound.2, reset_windowsSafe.compatible, reset_windowsSafe.below,
    ⟨reset_windowsSafe.range, fun g t n hb hn => reset_windowsSafe.lifetime g t hb n hn⟩, reset_queuesSound,
    reset_quietLink, ⟨by decide, fun _ => rfl⟩, ⟨rfl, Nat.zero_le _, fun h => Tx.noConfusion h⟩, reset_offersSound,
    fun _ _ => ⟨rfl, rfl⟩, reset_portEager,
    ⟨fun h => Bool.noConfusion h, fun _ => reset_allIdle, fun h => HoldState.noConfusion h⟩, reset_inFlightCounted,
    reset_stationsDistinct, reset_heldCounted, reset_noticeQueuesSound, reset_settingsInRange⟩

/-! ### In-flight counts -/

/-- The LIVE record of the counterexample: one memory phase is under way on it. -/
def busyGrant : Grant :=
  { gen := 0
    inFlight := 1
    body := .live
      { holder := .shared, base := 0, length := 1, rights := .read, remaining := none, credits := 0,
        renewAmount := none, notify := false, cookie := 0 } }

/-- The context of the counterexample: a READ of one line of grant 0, whose line operation has been started. -/
def readingCtx : Ctx := { Ctx.initial with state := .readMem, count := 1, issued := 1 }

/-- A context reply of context 0, under transmission. -/
def earlyReply : QueuedReply :=
  { origin := .context 0
    frame := { dest := 1, src := 2, seq := 0, grant := 0, gen := 0, replayed := false, kind := 0, status := .ok,
               value := 0, data := [] } }

/-- The part sends a reply of context 0, which is still in its memory phase on grant 0; the other entries of the grant
table are those of `s`, and `free` is the free list. No invariant that the statement supposes forbids it: that a queued
context reply names a context in REPLY_WAIT is not among them. -/
def State.withEarlyReply (s : State) (free : List GrantNum) : State :=
  { (s.setGrant 0 busyGrant).setCtx 0 readingCtx with
    freeList := free
    index := [0]
    link := .up
    tx := .reply
    replyQ := [earlyReply]
    pending := [.contextReplySent] }

theorem State.withEarlyReply_grant (s : State) (free : List GrantNum) (g : GrantNum) :
    (s.withEarlyReply free).grant g = if 0 = g then busyGrant else s.grant g :=
  State.grant_setGrant s 0 g busyGrant

theorem State.withEarlyReply_ctx (s : State) (free : List GrantNum) (c : CtxNum) :
    (s.withEarlyReply free).ctx c = if 0 = c then readingCtx else s.ctx c :=
  State.ctx_setCtx (s.setGrant 0 busyGrant) 0 c readingCtx

/-- The counterexample: that state with the rest of the part as power-on reset leaves it. -/
def earlyReplyState : State := State.reset.withEarlyReply ((List.finRange 512).erase 0)

theorem State.withEarlyReply_partition {s : State} (hs : ∀ g, (s.grant g).body = .free) {free : List GrantNum}
    (hn : free.Nodup) (hfree : ∀ g, g ∈ free ↔ g ≠ 0) : (s.withEarlyReply free).GrantListsPartition := by
  refine ⟨hn, List.nodup_singleton 0, fun g => ?_⟩
  have hindex : g ∈ (s.withEarlyReply free).index ↔ g = 0 := List.mem_singleton
  have hlist : g ∈ (s.withEarlyReply free).freeList ↔ g ≠ 0 := hfree g
  rw [hindex, hlist, State.withEarlyReply_grant]
  by_cases h : 0 = g
  · subst h; simp [busyGrant, Body.isFree]
  · simp [h, Ne.symm h, hs, Body.isFree]

theorem earlyReplyState_partition : earlyReplyState.GrantListsPartition :=
  State.withEarlyReply_partition (fun g => by rw [State.reset_grant]; rfl) ((List.nodup_finRange 512).erase 0)
    fun g => by simp [(List.nodup_finRange 512).mem_erase_iff]

/-- The contexts in their memory phase on `g`: context 0, on grant 0. -/
theorem earlyReplyState_inMemoryPhase (c : CtxNum) (g : GrantNum) :
    ((earlyReplyState.ctx c).inMemoryPhase && (earlyReplyState.ctx c).grant == g) = decide (0 = c ∧ 0 = g) := by
  rw [earlyReplyState, State.withEarlyReply_ctx, State.reset_ctx]
  by_cases h : 0 = c
  · subst h
    by_cases hg : 0 = g
    · subst hg; rfl
    · simp [readingCtx, Ctx.initial, Ctx.inMemoryPhase, hg]
  · simp [h, Ctx.initial, Ctx.inMemoryPhase]

theorem earlyReplyState_inFlightCounted : earlyReplyState.InFlightCounted := by
  intro g
  simp only [earlyReplyState_inMemoryPhase]
  rw [earlyReplyState, State.withEarlyReply_grant, State.reset_grant]
  by_cases h : 0 = g
  · subst h
    rw [if_pos rfl]
    refine ⟨by decide, ?_, ?_⟩
    · intro hb; cases hb
    · intro t c hb; cases hb
  · rw [if_neg h]
    refine ⟨?_, fun _ => rfl, fun t c hb => by cases hb⟩
    simp [h, Grant.initial]

theorem earlyReplyState_portEager : earlyReplyState.PortEager := fun _ c => by
  rw [earlyReplyState, State.withEarlyReply_ctx, State.reset_ctx]
  split <;> rfl

theorem earlyReplyState_queuesSound : earlyReplyState.QueuesSound :=
  ⟨Nat.zero_le _, Nat.zero_le _, fun h => absurd rfl h, List.nodup_nil, fun _ he => absurd he List.not_mem_nil⟩

/-- The completed transmission sends the context of the reply to IDLE, in its memory phase or not. -/
theorem contextSent_ctx {s : State} {c : CtxNum} {f : Reply} {rest : List QueuedReply} (ht : s.tx = .reply)
    (hq : s.replyQ = { origin := .context c, frame := f } :: rest) (d : CtxNum) :
    (contextSent s).ctx d = if c = d then { s.ctx c with state := .idle } else s.ctx d := by
  have htake : ∀ u : State, (txTake (drainTest u)).ctx d = u.ctx d := fun u => by
    obtain ⟨_, _, _, h⟩ := txTake_only (drainTest u)
    obtain ⟨_, _, _, _, h'⟩ := drainTest_only u
    rw [h, h']
    rfl
  have hclear : ∀ (sl : SlotNum) (u : State), (clearPending c sl u).ctx d = u.ctx d := fun _ _ => rfl
  simp only [contextSent, ht, hq]
  rw [htake, hclear]
  exact State.ctx_enter _ c d .idle

/-- The completed transmission of a reply leaves the grant table. -/
theorem contextSent_grant {s : State} {c : CtxNum} {f : Reply} {rest : List QueuedReply} (ht : s.tx = .reply)
    (hq : s.replyQ = { origin := .context c, frame := f } :: rest) (g : GrantNum) :
    (contextSent s).grant g = s.grant g := by
  simp only [contextSent, ht, hq]
  exact congrArg (fun v => v.1[g.val]) ((txTake_table _).trans ((drainTest_table _).trans rfl))

/-- The step of the counterexample leaves no context in its memory phase. -/
theorem contextSent_withEarlyReply_ctx {s : State} (hs : ∀ c, (s.ctx c).inMemoryPhase = false) (free : List GrantNum)
    (c : CtxNum) : ((contextSent { s.withEarlyReply free with pending := [] }).ctx c).inMemoryPhase = false := by
  rw [contextSent_ctx (c := 0) (f := earlyReply.frame) (rest := []) rfl rfl]
  split
  · rfl
  · next hne =>
    have hctx : ({ s.withEarlyReply free with pending := [] } : State).ctx c = (s.withEarlyReply free).ctx c := rfl
    rw [hctx, State.withEarlyReply_ctx, if_neg hne, hs]

/-- The step of the counterexample leaves the count of grant 0 at 1. -/
theorem contextSent_withEarlyReply_grant (s : State) (free : List GrantNum) :
    ((contextSent { s.withEarlyReply free with pending := [] }).grant 0).inFlight = 1 := by
  rw [contextSent_grant (c := 0) (f := earlyReply.frame) (rest := []) rfl rfl]
  exact congrArg Grant.inFlight (State.withEarlyReply_grant s free 0)

theorem step_withEarlyReply {s : State} (h : s.inReset = false) (free : List GrantNum) :
    step (s.withEarlyReply free) = .next (contextSent { s.withEarlyReply free with pending := [] }) :=
  (exec_contextReplySent _).trans (event_running h)

/-- Refutes O59: the completed transmission sends context 0 to IDLE out of its memory phase, and the count of grant 0
stays 1 with no context left on it. -/
theorem not_inFlightStaysCounted : ¬ Obligations.InFlightStaysCounted := by
  intro h
  obtain ⟨hcounted, -⟩ := h earlyReplyState _ earlyReplyState_partition earlyReplyState_queuesSound
    earlyReplyState_inFlightCounted earlyReplyState_portEager (step_withEarlyReply (by rfl) _)
  obtain ⟨hcount, -⟩ := hcounted 0
  rw [contextSent_withEarlyReply_grant] at hcount
  simp [contextSent_withEarlyReply_ctx (s := State.reset) (fun c => by rw [State.reset_ctx]; rfl)] at hcount

end Sys2Proof.Machine
end


section
/-! PROOFS. The link's leaving UP (R127) in one piece, and the hold state and the settings (R157, R158, R174 to R176)
under every step. -/

namespace Sys2Proof.Machine

/-! ### The replies dropped when the link leaves UP (R104, R127) -/

/-- A station record whose pending mark no longer names a context of which `p` holds. -/
def Station.unmarked (r : Station) (p : CtxNum → Bool) : Station :=
  { r with pending := r.pending.filter (fun c => !p c) }

/-- A slot whose record's pending mark no longer names a context of which `p` holds. -/
def Slot.unmarked (x : Slot) (p : CtxNum → Bool) : Slot :=
  { x with record := x.record.map (fun r => r.unmarked p) }

theorem Slot.unmarked_unmarked (x : Slot) (p q : CtxNum → Bool) :
    (x.unmarked p).unmarked q = x.unmarked (fun c => p c || q c) := by
  simp [Slot.unmarked, Station.unmarked, Function.comp_def]

theorem Slot.unmarked_of_false (x : Slot) {p : CtxNum → Bool} (h : ∀ c, p c = false) : x.unmarked p = x := by
  have hall : ∀ o : Option CtxNum, o.filter (fun _ => true) = o := fun o => by cases o <;> rfl
  simp [Slot.unmarked, Station.unmarked, h, hall]

/-- A context in REPLY_WAIT drops its reply and is IDLE. -/
def Ctx.dropped (x : Ctx) : Ctx := if x.state = .replyWait then { x with state := .idle } else x

/-- The context drops its reply, and its slot is `sl`. -/
def Ctx.drops (x : Ctx) (sl : SlotNum) : Bool := x.state == .replyWait && x.slot == sl

theorem dropReply_ctx (c d : CtxNum) (s : State) :
    (dropReply c s).ctx d = if c = d then (s.ctx d).dropped else s.ctx d := by
  unfold dropReply Ctx.dropped
  by_cases h : c = d
  · subst h
    split <;> simp [clearPending]
  · split <;> simp [clearPending, State.ctx_enter, h]

theorem clearPending_slot (c : CtxNum) (sl tl : SlotNum) (s : State) :
    (clearPending c sl s).slot tl = if sl = tl then (s.slot tl).unmarked (fun d => d == c) else s.slot tl := by
  unfold clearPending
  rw [State.slot_modifyRecord]
  by_cases h : sl = tl
  · subst h
    have hmark : ∀ o : Option CtxNum, (if o = some c then none else o) = o.filter (fun d => !(d == c)) := fun o => by
      cases o with
      | none => simp
      | some d => by_cases hd : d = c <;> simp [Option.filter, hd]
    simp only [if_true, Slot.unmarked, Station.unmarked, hmark]
  · rw [if_neg h, if_neg h]

theorem dropReply_slot (c : CtxNum) (sl : SlotNum) (s : State) :
    (dropReply c s).slot sl = (s.slot sl).unmarked (fun d => d == c && (s.ctx c).drops sl) := by
  unfold dropReply Ctx.drops
  by_cases h : (s.ctx c).state = .replyWait
  · rw [if_pos h, clearPending_slot, State.slot_enter_other]
    by_cases hs : (s.ctx c).slot = sl
    · simp [h, hs]
    · rw [if_neg hs, Slot.unmarked_of_false _ fun d => by simp [hs]]
  · rw [if_neg h, Slot.unmarked_of_false _ fun d => by simp [h]]

/-- The contexts after some of them have dropped their replies in turn. -/
theorem foldl_dropReply_ctx (cs : List CtxNum) (d : CtxNum) (s : State) :
    (cs.foldl (fun s c => dropReply c s) s).ctx d = if d ∈ cs then (s.ctx d).dropped else s.ctx d := by
  induction cs generalizing s with
  | nil => simp
  | cons c cs ih =>
    rw [List.foldl_cons, ih, dropReply_ctx]
    by_cases h : c = d
    · subst h
      have : (s.ctx c).dropped.dropped = (s.ctx c).dropped := by unfold Ctx.dropped; split <;> simp [*]
      simp [this]
    · simp [h, Ne.symm h]

/-- The slots after contexts have dropped their replies in turn. -/
theorem foldl_dropReply_slot {cs : List CtxNum} (hn : cs.Nodup) (sl : SlotNum) (s : State) :
    (cs.foldl (fun s c => dropReply c s) s).slot sl =
      (s.slot sl).unmarked (fun d => decide (d ∈ cs) && (s.ctx d).drops sl) := by
  induction cs generalizing s with
  | nil => rw [Slot.unmarked_of_false _ fun d => by simp]; rfl
  | cons c cs ih =>
    obtain ⟨hc, hn⟩ := List.nodup_cons.1 hn
    rw [List.foldl_cons, ih hn, dropReply_slot, Slot.unmarked_unmarked]
    congr 1
    funext d
    rw [dropReply_ctx]
    by_cases h : c = d
    · subst h; simp [hc]
    · simp [h, Ne.symm h]

theorem dropReplies_ctx (c : CtxNum) (s : State) : (dropReplies s).ctx c = (s.ctx c).dropped := by
  unfold dropReplies
  rw [foldl_dropReply_ctx, if_pos (List.mem_finRange c)]

theorem dropReplies_slot (sl : SlotNum) (s : State) :
    (dropReplies s).slot sl = (s.slot sl).unmarked (fun d => (s.ctx d).drops sl) := by
  unfold dropReplies
  rw [foldl_dropReply_slot (List.nodup_finRange 8)]
  simp

/-- What is left of a slot when the link has left UP: no frame, and the marks of the dropped replies none. -/
theorem unmarked_drops (s : State) (sl : SlotNum) :
    ({ (s.slot sl).unmarked (fun d => (s.ctx d).drops sl) with frame := .none } : Slot) =
      { s.slot sl with
        frame := .none
        record := (s.slot sl).record.map (fun r =>
          { r with
            pending :=
              if ∃ c : CtxNum, (s.ctx c).state = .replyWait ∧ (s.ctx c).slot = sl ∧ r.pending = some c then none
              else r.pending }) } := by
  have hmark : ∀ o : Option CtxNum, o.filter (fun d => !(s.ctx d).drops sl) =
      if ∃ c : CtxNum, (s.ctx c).state = .replyWait ∧ (s.ctx c).slot = sl ∧ o = some c then none else o := fun o => by
    cases o with
    | none => simp
    | some d =>
      have hdrops : (s.ctx d).drops sl = decide ((s.ctx d).state = .replyWait ∧ (s.ctx d).slot = sl) := by
        unfold Ctx.drops
        rw [Bool.decide_and]
        rfl
      by_cases hd : (s.ctx d).state = .replyWait ∧ (s.ctx d).slot = sl
      · rw [if_pos ⟨d, hd.1, hd.2, rfl⟩]
        simp [Option.filter, hdrops, hd]
      · rw [if_neg (by rintro ⟨c, h1, h2, hc⟩; cases hc; exact hd ⟨h1, h2⟩)]
        simp only [Option.filter, hdrops, hd, decide_false, Bool.not_false, if_true]
  simp only [Slot.unmarked, Station.unmarked, hmark]

/-- Whether some context waits in REPLY_WAIT. -/
theorem any_replyWait (s : State) :
    s.ctxs.any (fun x => x.state == .replyWait) = true ↔ ∃ c, (s.ctx c).state = .replyWait := by
  simp [State.ctx, Vector.any_eq_true, Fin.exists_iff]

theorem State.withLinkLeft_ctx (s : State) (c : CtxNum) : s.withLinkLeft.ctx c = (s.ctx c).dropped := by
  simp only [State.withLinkLeft, State.ctx, Vector.getElem_ofFn]
  rfl

theorem State.withLinkLeft_slot (s : State) (sl : SlotNum) :
    s.withLinkLeft.slot sl = { (s.slot sl).unmarked (fun d => (s.ctx d).drops sl) with frame := .none } := by
  rw [unmarked_drops]
  simp only [State.withLinkLeft, State.slot, Vector.getElem_ofFn]

/-- The replies dropped and the frames cleared, in one piece: the tables that the link's leaving UP leaves. -/
theorem clearFrames_dropReplies (s : State) :
    clearFrames (dropReplies s) = { s with ctxs := s.withLinkLeft.ctxs, slots := s.withLinkLeft.slots } := by
  have hframe : ∀ (u : State) (sl : SlotNum), (clearFrames u).slot sl = { u.slot sl with frame := .none } :=
    fun u sl => by simp [clearFrames, State.slot]
  have hctxs : (dropReplies s).ctxs = s.withLinkLeft.ctxs := ctxs_ext fun c => by
    exact (dropReplies_ctx c s).trans (s.withLinkLeft_ctx c).symm
  have hslots : (clearFrames (dropReplies s)).slots = s.withLinkLeft.slots := slots_ext fun sl => by
    exact (hframe _ sl).trans ((congrArg (fun x : Slot => { x with frame := .none }) (dropReplies_slot sl s)).trans
      (s.withLinkLeft_slot sl).symm)
  obtain ⟨ctxs, slots, h⟩ := dropReplies_only s
  rw [← hslots, ← hctxs, h]
  rfl

/-- The link's leaving UP (R127), in one piece. -/
theorem linkLeavesUp_eq (next : LinkState) (s : State) :
    linkLeavesUp next s =
      (let u := ({ s with link := next } : State).withLinkLeft
       if ∃ c, (s.ctx c).state = .replyWait then u.withDrainTest else u) := by
  unfold linkLeavesUp
  simp only [clearFrames_dropReplies, any_replyWait, drainTest_eq_withDrainTest]
  rfl

/-! ### CONTROL writes as rows (log 14) -/

/-- A row that fixes a bit at the value the word has is the write of the word. -/
theorem withBit_of_getLsbD {v : Word} {i : Nat} {b : Bool} (hi : i < 32) (h : v.getLsbD i = b) : withBit v i b = v := by
  refine BitVec.eq_of_getLsbD_eq fun j hj => ?_
  by_cases hij : i = j
  · subst hij
    rw [getLsbD_withBit_self v hi, h]
  · exact getLsbD_withBit_other v b hj hij

theorem exec_linkEnable (v : Word) (s : State) :
    exec (.linkEnable v) s = event (controlWrite (withBit v 0 true)) s := rfl

theorem exec_linkDisable (v : Word) (s : State) :
    exec (.linkDisable v) s = event (controlWrite (withBit v 0 false)) s := rfl

theorem exec_interruptEnableWrite (v : Word) (s : State) :
    exec (.interruptEnableWrite v) s = event (controlWrite (withBit v 1 false)) s := rfl

/-- The four rows that are CONTROL writes, where their own bit is as the word has it, are the write of the word. -/
theorem exec_controlRows {v : Word} {s : State} (h : s.inReset = false) :
    (v.getLsbD 0 = true → exec (.linkEnable v) s = .next (controlWrite v s)) ∧
      (v.getLsbD 0 = false → exec (.linkDisable v) s = .next (controlWrite v s)) ∧
      (v.getLsbD 1 = true → exec (.engineReset v) s = .next (controlWrite v s)) ∧
      (v.getLsbD 1 = false → exec (.interruptEnableWrite v) s = .next (controlWrite v s)) := by
  rw [exec_linkEnable, exec_linkDisable, exec_engineReset, exec_interruptEnableWrite]
  refine ⟨fun hb => ?_, fun hb => ?_, fun hb => ?_, fun hb => ?_⟩ <;>
    rw [withBit_of_getLsbD (by decide) hb, event_running h]

/-- A CONTROL write without ENGINE_RESET. -/
theorem controlWrite_no_reset {v : Word} (s : State) (h : v.getLsbD 1 = false) :
    controlWrite v s = linkEnableWrite (v.getLsbD 0) { s with enables := Enables.ofWord v } := by
  simp only [controlWrite, h, Bool.false_eq_true, if_false]

theorem withDrainEnded_trainingTime (s : State) (n : Nat) :
    { s.withDrainEnded with trainingTime := n } = ({ s with trainingTime := n } : State).withDrainEnded := by
  unfold State.withDrainEnded
  by_cases h : s.backlog = [] ∧ s.cq.length < 64
  · rw [if_pos h, if_pos (by exact h)]
  · rw [if_neg h, if_neg (by exact h)]

/-- The training time has no part in the end of a drain. -/
theorem withDrainTest_trainingTime (s : State) (n : Nat) :
    { s.withDrainTest with trainingTime := n } = ({ s with trainingTime := n } : State).withDrainTest := by
  unfold State.withDrainTest
  by_cases h : s.hold = .draining ∧ ∀ c : CtxNum, (s.ctx c).state = .idle
  · rw [if_pos h, if_pos (by exact h)]
    exact withDrainEnded_trainingTime s n
  · rw [if_neg h, if_neg (by exact h)]

/-- Settles O8: LINK_DISABLE and SYNC_LOST in UP are the one leaving of UP, of which `linkLeavesUp_eq` says
everything. -/
theorem linkLeavingUpDropsFrames : Obligations.LinkLeavingUpDropsFrames := by
  intro v s hreset hup
  refine ⟨fun hb0 hb1 => ?_, ?_⟩
  · rw [(exec_controlRows hreset).2.1 hb0, controlWrite_no_reset s hb1, hb0]
    simp only [linkEnableWrite, hup, Bool.false_eq_true, if_false, linkLeavesUp_eq]
    rfl
  · rw [exec_syncLost, event_running hreset]
    simp only [syncLost, hup, linkLeavesUp_eq]
    congr 1
    split
    · exact withDrainTest_trainingTime ({ s with link := .training } : State).withLinkLeft 0
    · rfl

end Sys2Proof.Machine
end


section
/-! PROOFS. The hold state and the settings (R157, R158, R174 to R176) under every step. -/

namespace Sys2Proof.Machine

/-! ### The acts that reach the hold state, the contexts, the settings or the link state -/

/-- The fields that few acts change: the hold state with the contexts, the settings with the times, and the link state
with its enable. -/
def State.core (s : State) : (HoldState × Bool × Vector Ctx 8) ×
    (Nat × Nat × Nat × Nat × TickPeriod × Nat × Nat × List (Nat × Line)) × (LinkState × Bool × StationNum) :=
  ((s.hold, s.freeze, s.ctxs),
    (s.memTop, s.defaultQuota, s.noticeInterval, s.noticeTries, s.tickPeriod, s.tickPhase, s.trainingTime, s.nodeMem),
    (s.link, s.linkEnable, s.self))

theorem setNotice_core (g : GrantNum) (n : Notice) (s : State) : (setNotice g n s).core = s.core :=
  let ⟨_, h⟩ := setNotice_only g n s
  (congrArg State.core h).trans rfl

theorem leaveQueue_core (sl : SlotNum) (outcome : Notice) (s : State) : (leaveQueue sl outcome s).core = s.core :=
  let ⟨_, _, _, _, h⟩ := leaveQueue_only sl outcome s
  (congrArg State.core h).trans rfl

theorem abandonQueue_core (sl : SlotNum) (s : State) : (abandonQueue sl s).core = s.core :=
  let ⟨_, _, _, h⟩ := abandonQueue_only sl s
  (congrArg State.core h).trans rfl

theorem offerFrame_core (sl : SlotNum) (s : State) : (offerFrame sl s).core = s.core :=
  let ⟨_, _, h⟩ := offerFrame_only sl s
  (congrArg State.core h).trans rfl

theorem txTake_core (s : State) : (txTake s).core = s.core :=
  let ⟨_, _, _, h⟩ := txTake_only s
  (congrArg State.core h).trans rfl

theorem closeGrant_core (cause : Cause) (g : GrantNum) (s : State) : (closeGrant cause g s).core = s.core :=
  let ⟨_, _, h⟩ := closeGrant_only cause g s
  (congrArg State.core h).trans rfl

theorem closeAll_core (cause : Cause) (gs : List GrantNum) (s : State) : (closeAll cause gs s).core = s.core :=
  let ⟨_, _, h⟩ := closeAll_only cause gs s
  (congrArg State.core h).trans rfl

theorem testReady_core (g : GrantNum) (s : State) : (testReady g s).core = s.core :=
  let ⟨_, _, _, _, _, _, _, h⟩ := testReady_only g s
  (congrArg State.core h).trans rfl

theorem allocate_core (g : GrantNum) (rest : List GrantNum) (t : Terms) (s : State) :
    (allocate g rest t s).core = s.core :=
  let ⟨_, h⟩ := allocate_only g rest t s
  (congrArg State.core h).trans rfl

theorem handAdmitted_core (sl : SlotNum) (n : StationNum) (s : State) : (handAdmitted sl n s).core = s.core :=
  let ⟨_, _, _, _, h⟩ := handAdmitted_only sl n s
  (congrArg State.core h).trans rfl

theorem handRestarted_core (sl : SlotNum) (x : Station) (epoch : BitVec 16) (swept : Nat) (s : State) :
    (handRestarted sl x epoch swept s).core = s.core :=
  let ⟨_, _, _, _, h⟩ := handRestarted_only sl x epoch swept s
  (congrArg State.core h).trans rfl

theorem placeBacklogHead_core (s : State) : (placeBacklogHead s).core = s.core :=
  let ⟨_, _, _, _, _, _, h⟩ := placeBacklogHead_only s
  (congrArg State.core h).trans rfl

/-- The acts that change the core, with what they change it to. -/
inductive CoreMove : State → State → Prop where
  | phaseRestarts (s : State) : CoreMove s { s with tickPhase := 0 }
  | trains (s : State) (hv : s.selfValid = true) (hl : s.link = .down) :
      CoreMove s { s with linkEnable := true, link := .training, trainingTime := 0 }
  | enables (s : State) (hv : s.selfValid = true) (hl : s.link ≠ .down) : CoreMove s { s with linkEnable := true }
  | disables (s : State) : CoreMove s { s with linkEnable := false, link := .down }
  | trainingRestarts (s : State) : CoreMove s { s with trainingTime := 0 }
  | goesDown (s : State) : CoreMove s (linkLeavesUp .down { s with linkEnable := false })
  | losesSync (s : State) (hl : s.link = .up) : CoreMove s { linkLeavesUp .training s with trainingTime := 0 }
  | entersUp (s : State) (alerts : Alerts) (hl : s.link = .training) :
      CoreMove s { s with link := .up, trainingTime := Config.trainingPeriod, alerts := alerts }
  | changesContext (s : State) (c : CtxNum) (x : Ctx) (hx : x.state = (s.ctx c).state) : CoreMove s (s.setCtx c x)
  | binds (s : State) (c : CtxNum) (x : Ctx) (hh : s.hold = .running) : CoreMove s (s.setCtx c x)
  | idles (s : State) (c : CtxNum) : CoreMove s (drainTest (s.enter c .idle))
  | queuesReply (s : State) (c : CtxNum) (q : List QueuedReply) (hm : (s.ctx c).inMemoryPhase = true) :
      CoreMove s { s.enter c .replyWait with replyQ := q }
  | setsLimits (s : State) (memTop : Nat) (policy : Policy) (quota : Nat)
      (hm : memTop = s.memTop ∨ memTop ≤ Config.lineLimit) (hq : quota = s.defaultQuota ∨ quota ≤ Config.maxQuota) :
      CoreMove s { s with memTop := memTop, policy := policy, defaultQuota := quota }
  | setsTiming (s : State) (period : TickPeriod) (interval tries : Nat)
      (hi : interval = s.noticeInterval ∨ (1 ≤ interval ∧ interval ≤ 15))
      (ht : tries = s.noticeTries ∨ (1 ≤ tries ∧ tries ≤ 7)) :
      CoreMove s
        { s with
          tickPeriod := period
          noticeInterval := interval
          noticeTries := tries
          tickPhase := if period = s.tickPeriod then s.tickPhase else 0 }
  | holds (s : State) (freeze : Bool) :
      CoreMove s { s with hold := if s.allIdle then .held else .draining, freeze := freeze }
  | resumes (s : State) : CoreMove s { s with hold := .running, freeze := false }
  | drains (s : State) : CoreMove s (drainTest s)

/-- Every act leaves the core, or changes it as `CoreMove` says. -/
theorem Act.core {e : Effect} {s t : State} (h : Act e s t) : t.core = s.core ∨ CoreMove s t := by
  cases h with
  | registers | receptionEnds | replies | replySent | contextReplySent | noticeSent | detachedSent | countsInFlight
  | renews | amends | changesRecord | creates | forgets | port | fifoJoins | fifoLeaves | reports => exact .inl rfl
  | phaseRestarts => exact .inr (.phaseRestarts s)
  | trains _ hv hl => exact .inr (.trains s hv hl)
  | enables _ hv _ hl => exact .inr (.enables s hv hl)
  | disables => exact .inr (.disables s)
  | trainingRestarts => exact .inr (.trainingRestarts s)
  | goesDown => exact .inr (.goesDown s)
  | losesSync _ hl => exact .inr (.losesSync s hl)
  | entersUp _ hl => exact .inr (.entersUp s _ hl)
  | transmits => exact .inl (txTake_core s)
  | offers => exact .inl (offerFrame_core ..)
  | recounts => exact .inl (setNotice_core ..)
  | leavesQueue => exact .inl (leaveQueue_core ..)
  | abandons _ sl r =>
    exact .inl ((foldl_view (fun s g => setNotice_core g .abandoned s) _ _).trans (abandonQueue_core sl s))
  | closes => exact .inl (closeGrant_core ..)
  | countsDown => exact .inl (closeAll_core ..)
  | tested => exact .inl (testReady_core ..)
  | issues => exact .inl (allocate_core ..)
  | admits => exact .inl (handAdmitted_core ..)
  | restarts => exact .inl (handRestarted_core ..)
  | changesContext _ c x hx => exact .inr (.changesContext s c x hx)
  | binds _ c x hh => exact .inr (.binds s c x hh)
  | idles _ c => exact .inr (.idles s c)
  | queuesReply _ c f hl hm => exact .inr (.queuesReply s c _ hm)
  | placesBacklog => exact .inl (placeBacklogHead_core s)
  | setsLimits _ memTop policy quota hm hq => exact .inr (.setsLimits s memTop policy quota (hm.imp_right And.right) hq)
  | setsTiming _ period interval tries hi ht => exact .inr (.setsTiming s period interval tries hi ht)
  | holds _ freeze => exact .inr (.holds s freeze)
  | resumes => exact .inr (.resumes s)
  | drains => exact .inr (.drains s)

/-! ### The hold state -/

/-- The fields of the hold alone carry the consistency. -/
theorem State.HoldConsistent.of_view {s t : State} (h : (t.hold, t.freeze, t.ctxs) = (s.hold, s.freeze, s.ctxs))
    (hs : s.HoldConsistent) : t.HoldConsistent := by
  simp only [Prod.mk.injEq] at h
  obtain ⟨hhold, hfreeze, hctxs⟩ := h
  unfold State.HoldConsistent State.allIdle at *
  rw [hhold, hfreeze, hctxs]
  exact hs

theorem State.HoldConsistent.of_core {s t : State} (h : t.core = s.core) (hs : s.HoldConsistent) :
    t.HoldConsistent := .of_view (congrArg Prod.fst h) hs

/-- Hold Control's test makes a drain's condition true again (R176). -/
theorem drainTest_holdConsistent {s : State} (hf : s.freeze = true → s.hold ≠ .running)
    (hh : s.hold = .held → s.allIdle = true) : (drainTest s).HoldConsistent := by
  by_cases h : s.hold = .draining ∧ s.allIdle = true
  · rw [drainTest_ends h.1 h.2]
    obtain ⟨_, _, _, hreached⟩ := handHoldReached_only { s with hold := .held }
    rw [hreached]
    exact ⟨fun _ hr => HoldState.noConfusion hr, fun _ => h.2, fun hr => HoldState.noConfusion hr⟩
  · have hstay : s.hold ≠ .draining ∨ s.allIdle = false := by
      simpa only [not_and_or, Bool.not_eq_true] using h
    rw [drainTest_stays hstay]
    exact ⟨hf, hh, fun hd => by simpa [hd] using h⟩

theorem allIdle_enter_idle {s : State} (h : s.allIdle = true) (c : CtxNum) : (s.enter c .idle).allIdle = true := by
  rw [State.allIdle_iff] at h ⊢
  intro d
  rw [State.ctx_enter]
  split
  · rfl
  · exact h d

/-- Setting a context to another with the same state leaves every context's state. -/
theorem state_setCtx {s : State} {c : CtxNum} {x : Ctx} (hx : x.state = (s.ctx c).state) (d : CtxNum) :
    ((s.setCtx c x).ctx d).state = (s.ctx d).state := by
  rw [State.ctx_setCtx]
  split
  · next h => rw [hx, h]
  · rfl

theorem allIdle_congr {s t : State} (h : ∀ c, (t.ctx c).state = (s.ctx c).state) : t.allIdle = s.allIdle := by
  rw [Bool.eq_iff_iff, State.allIdle_iff, State.allIdle_iff]
  simp only [h]

/-- The link's leaving UP: contexts only return to IDLE, and a drain that this ends is tested. -/
theorem linkLeavesUp_holdConsistent {next : LinkState} {s : State} (hs : s.HoldConsistent) :
    (linkLeavesUp next s).HoldConsistent := by
  obtain ⟨hfreeze, hheld, hdrain⟩ := hs
  have hctx : ∀ c, (({ s with link := next } : State).withLinkLeft.ctx c) = (s.ctx c).dropped :=
    State.withLinkLeft_ctx { s with link := next }
  rw [linkLeavesUp_eq]
  simp only []
  split
  · rw [← drainTest_eq_withDrainTest]
    refine drainTest_holdConsistent hfreeze fun h => (State.allIdle_iff _).2 fun c => ?_
    have hidle := (State.allIdle_iff s).1 (hheld h) c
    rw [hctx, Ctx.dropped]
    split
    · rfl
    · exact hidle
  · next hnone =>
    have hall : ({ s with link := next } : State).withLinkLeft.allIdle = s.allIdle := allIdle_congr fun c => by
      rw [hctx, Ctx.dropped, if_neg fun h => hnone ⟨c, h⟩]
    exact ⟨hfreeze, fun h => hall.trans (hheld h), fun h => hall.trans (hdrain h)⟩

theorem CoreMove.holdConsistent {s t : State} (h : CoreMove s t) (hs : s.HoldConsistent) : t.HoldConsistent := by
  have hview : ∀ {u : State}, (u.hold, u.freeze, u.ctxs) = (s.hold, s.freeze, s.ctxs) → u.HoldConsistent :=
    fun hu => .of_view hu hs
  obtain ⟨hfreeze, hheld, hdrain⟩ := id hs
  cases h with
  | phaseRestarts | trains | enables | disables | trainingRestarts | entersUp | setsLimits | setsTiming =>
    exact hview rfl
  | goesDown => exact linkLeavesUp_holdConsistent (.of_view (s := s) rfl hs)
  | losesSync => exact .of_view (s := linkLeavesUp .training s) rfl (linkLeavesUp_holdConsistent hs)
  | changesContext c x hx =>
    have hall := allIdle_congr (state_setCtx hx)
    exact ⟨hfreeze, fun h => hall.trans (hheld h), fun h => hall.trans (hdrain h)⟩
  | binds c x hh =>
    refine ⟨hfreeze, fun h => ?_, fun h => ?_⟩ <;> exact absurd (hh.symm.trans h) (by decide)
  | idles c => exact drainTest_holdConsistent hfreeze fun h => allIdle_enter_idle (hheld h) c
  | queuesReply c q hm =>
    have hbusy : (s.enter c .replyWait).allIdle = false := by
      rw [Bool.eq_false_iff, ne_eq, State.allIdle_iff]
      intro h
      have := h c
      rw [State.ctx_enter_self] at this
      cases this
    refine ⟨hfreeze, fun h => ?_, fun _ => hbusy⟩
    have hidle := (State.allIdle_iff s).1 (hheld h) c
    rw [Ctx.inMemoryPhase, hidle] at hm
    cases hm
  | holds freeze =>
    refine ⟨fun _ => ?_, fun h => ?_, fun h => ?_⟩
    · simp only; split <;> decide
    · simp only at h
      split at h
      · assumption
      · cases h
    · simp only at h
      split at h
      · cases h
      · next hb => exact Bool.eq_false_iff.2 hb
  | resumes =>
    exact ⟨fun h => Bool.noConfusion h, fun h => HoldState.noConfusion h, fun h => HoldState.noConfusion h⟩
  | drains => exact drainTest_holdConsistent hfreeze hheld

theorem running_holdConsistent {s : State} (hh : s.hold = .running) (hf : s.freeze = false) : s.HoldConsistent := by
  refine ⟨fun h => ?_, fun h => ?_, fun h => ?_⟩
  · rw [hf] at h; cases h
  · rw [hh] at h; cases h
  · rw [hh] at h; cases h

theorem holdConsistent_kept : Kept State.HoldConsistent where
  act h hs := h.core.elim (fun h => hs.of_core h) (fun h => h.holdConsistent hs)
  pending s _ hs := .of_view (s := s) rfl hs
  power low out straps s _ := running_holdConsistent rfl rfl
  reset s _ := running_holdConsistent rfl rfl
  free s _ _ _ _ hs := .of_view (s := s) rfl hs
  place s _ rest _ _ hs := .of_core (placeBacklogHead_core { s with cq := rest }) (.of_view (s := s) rfl hs)
  line s _ op res _ hs := by
    obtain ⟨_, h⟩ := acceptWrite_only op res { s with port := .free }
    rw [h]
    exact .of_view (s := s) rfl hs

/-! ### The settings -/

/-- The fields of the settings alone carry their ranges. -/
theorem State.SettingsInRange.of_view {s t : State} (h : t.core.2.1 = s.core.2.1) (hs : s.SettingsInRange) :
    t.SettingsInRange := by
  simp only [State.core, Prod.mk.injEq] at h
  obtain ⟨h1, h2, h3, h4, h5, h6, h7, h8⟩ := h
  unfold State.SettingsInRange at *
  rw [h1, h2, h3, h4, h5, h6, h7, h8]
  exact hs

theorem drainTest_settings (s : State) : (drainTest s).core.2.1 = s.core.2.1 :=
  let ⟨_, _, _, _, h⟩ := drainTest_only s
  (congrArg (fun s => s.core.2.1) h).trans rfl

theorem linkLeavesUp_settings (next : LinkState) (s : State) : (linkLeavesUp next s).core.2.1 = s.core.2.1 :=
  let ⟨_, _, _, _, _, _, h⟩ := linkLeavesUp_only next s
  (congrArg (fun s => s.core.2.1) h).trans rfl

theorem CoreMove.settingsInRange {s t : State} (h : CoreMove s t) (hs : s.SettingsInRange) : t.SettingsInRange := by
  have hview : ∀ {u : State}, u.core.2.1 = s.core.2.1 → u.SettingsInRange := fun hu => .of_view hu hs
  obtain ⟨hmem, hquota, hi1, hi15, ht1, ht7, htrain, hphase, hnode⟩ := id hs
  cases h with
  | enables | disables | changesContext | binds | queuesReply | holds | resumes => exact hview rfl
  | goesDown => exact hview (linkLeavesUp_settings ..)
  | idles | drains => exact hview (drainTest_settings _)
  | phaseRestarts => exact ⟨hmem, hquota, hi1, hi15, ht1, ht7, htrain, s.tickPeriod.micros_pos, hnode⟩
  | trains | trainingRestarts => exact ⟨hmem, hquota, hi1, hi15, ht1, ht7, Nat.zero_le _, hphase, hnode⟩
  | losesSync =>
    obtain ⟨h1, h2, h3, h4, h5, h6, -, h8, h9⟩ :=
      State.SettingsInRange.of_view (linkLeavesUp_settings .training s) hs
    exact ⟨h1, h2, h3, h4, h5, h6, Nat.zero_le _, h8, h9⟩
  | entersUp => exact ⟨hmem, hquota, hi1, hi15, ht1, ht7, Nat.le_refl _, hphase, hnode⟩
  | setsLimits memTop policy quota hm hq =>
    exact ⟨hm.elim (fun h => h ▸ hmem) id, hq.elim (fun h => h ▸ hquota) id, hi1, hi15, ht1, ht7, htrain, hphase, hnode⟩
  | setsTiming period interval tries hi ht =>
    refine ⟨hmem, hquota, ?_, ?_, ?_, ?_, htrain, ?_, hnode⟩
    · exact hi.elim (fun h => h ▸ hi1) And.left
    · exact hi.elim (fun h => h ▸ hi15) And.right
    · exact ht.elim (fun h => h ▸ ht1) And.left
    · exact ht.elim (fun h => h ▸ ht7) And.right
    · simp only
      split
      · next h => rw [h]; exact hphase
      · exact period.micros_pos

/-- The settings, and what an engine reset and POWER_ON_RESET leave of the record of node memory. -/
theorem settingsInRange_kept : Kept State.SettingsInRange where
  act h hs := h.core.elim (fun h => hs.of_view (congrArg (fun c => c.2.1) h)) (fun h => h.settingsInRange hs)
  pending s _ hs := .of_view (s := s) rfl hs
  power low out straps s hs := by
    obtain ⟨-, -, -, -, -, -, -, -, hnode⟩ := hs
    obtain ⟨h1, h2, h3, h4, h5, h6, h7, h8, -⟩ := reset_settingsInRange
    exact ⟨h1, h2, h3, h4, h5, h6, h7, h8, hnode⟩
  reset s hs := by
    obtain ⟨h1, h2, h3, h4, h5, h6, h7, -, h9⟩ := hs
    exact ⟨h1, h2, h3, h4, h5, h6, h7, s.tickPeriod.micros_pos, h9⟩
  free s _ _ _ _ hs := .of_view (s := s) rfl hs
  place s _ rest _ _ hs :=
    .of_view (congrArg (fun c => c.2.1) (placeBacklogHead_core { s with cq := rest })) (.of_view (s := s) rfl hs)
  line s _ op res _ hs := by
    obtain ⟨h1, h2, h3, h4, h5, h6, h7, h8, h9⟩ := hs
    have hwf := acceptWrite_wf op res { s with port := .free } h9
    obtain ⟨m, h⟩ := acceptWrite_only op res { s with port := .free }
    rw [h] at hwf ⊢
    exact ⟨h1, h2, h3, h4, h5, h6, h7, h8, hwf⟩

/-- Settles O58: each part of a step that reaches the hold state or the settings sets them as their rules say. -/
theorem holdAndSettingsStayConsistent : Obligations.HoldAndSettingsStayConsistent :=
  fun _ _ hhold hsettings hstep => ⟨holdConsistent_kept.step hstep hhold, settingsInRange_kept.step hstep hsettings⟩

end Sys2Proof.Machine
end


section
/-! PROOFS. The link's state under every step: nothing under way while it is not UP, LINK_ENABLE, the immediate replies,
the offer list, and a transmitter that is free only with nothing to send (R65, R104, R109, R113, R118, R124, R127, R133,
R134). -/

namespace Sys2Proof.Machine

/-! ### The queue and the frame of a slot are left by what changes station records only -/

/-- A slot's side of the notices: its queue and its head frame state (R109). -/
def Slot.notices (x : Slot) : List GrantNum × HeadFrame := (x.queue, x.frame)

theorem setSlot_notices {s : State} {sl : SlotNum} {x : Slot} (hx : x.notices = (s.slot sl).notices) (k : SlotNum) :
    ((s.setSlot sl x).slot k).notices = (s.slot k).notices := by
  rw [State.slot_setSlot]
  split
  · next h => rw [← h]; exact hx
  · rfl

theorem modifyRecord_notices (sl : SlotNum) (f : Station → Station) (s : State) (k : SlotNum) :
    ((s.modifyRecord sl f).slot k).notices = (s.slot k).notices :=
  setSlot_notices (x := { s.slot sl with record := (s.slot sl).record.map f }) rfl k

theorem changeHeld_notices (f : Nat → Nat) (h : Holder) (s : State) (k : SlotNum) :
    ((changeHeld f h s).slot k).notices = (s.slot k).notices := by
  unfold changeHeld
  split
  · rfl
  · split
    · exact modifyRecord_notices ..
    · rfl

theorem retire_notices (g : GrantNum) (s : State) (k : SlotNum) :
    ((retire g s).slot k).notices = (s.slot k).notices := by
  unfold retire
  split
  · exact changeHeld_notices ..
  · rfl
  · rfl

theorem setRetireWait_slot (g : GrantNum) (s : State) (k : SlotNum) : (setRetireWait g s).slot k = s.slot k := by
  obtain ⟨_, h⟩ := setRetireWait_only g s
  rw [h]; rfl

theorem testReady_notices (g : GrantNum) (s : State) (k : SlotNum) :
    ((testReady g s).slot k).notices = (s.slot k).notices := by
  unfold testReady
  split
  · split
    · exact retire_notices ..
    · exact congrArg Slot.notices (setRetireWait_slot g s k)
  · rfl

theorem allocate_notices (g : GrantNum) (rest : List GrantNum) (t : Terms) (s : State) (k : SlotNum) :
    ((allocate g rest t s).slot k).notices = (s.slot k).notices := changeHeld_notices ..

theorem handAdmitted_notices (sl : SlotNum) (n : StationNum) (s : State) (k : SlotNum) :
    ((handAdmitted sl n s).slot k).notices = (s.slot k).notices := by
  unfold handAdmitted
  split
  · rfl
  · exact modifyRecord_notices ..

theorem handRestarted_notices (sl : SlotNum) (x : Station) (epoch : BitVec 16) (swept : Nat) (s : State) (k : SlotNum) :
    ((handRestarted sl x epoch swept s).slot k).notices = (s.slot k).notices := by
  unfold handRestarted
  split
  · exact modifyRecord_notices ..
  · split
    · rfl
    · exact modifyRecord_notices ..

theorem placeBacklogHead_notices (s : State) (k : SlotNum) :
    ((placeBacklogHead s).slot k).notices = (s.slot k).notices := by
  unfold placeBacklogHead
  split
  · rfl
  · next e rest _ =>
    split
    · cases e with
      | grant g => exact retire_notices g { s with backlog := rest } k
      | admitted sl =>
        simp only [placeEvent]
        split
        · exact modifyRecord_notices ..
        · rfl
      | restarted sl =>
        simp only [placeEvent]
        split
        · split
          · exact modifyRecord_notices ..
          · rfl
        · rfl
      | holdReached => rfl
    · rfl

theorem frame_of_notices {x y : Slot} (h : x.notices = y.notices) : x.frame = y.frame := congrArg Prod.snd h

/-- The closing act leaves every head frame state: a grant joins the tail of its queue (R110). -/
theorem closeGrant_frame (cause : Cause) (g : GrantNum) (s : State) (k : SlotNum) :
    ((closeGrant cause g s).slot k).frame = (s.slot k).frame := by
  have henqueue : ∀ (h : Holder) (u : State), ((enqueueNotice g h u).slot k).frame = (u.slot k).frame := fun h u => by
    unfold enqueueNotice
    split
    · rfl
    · split
      · rw [State.slot_setSlot]
        split
        · next hk => rw [← hk]
        · rfl
      · rfl
  unfold closeGrant
  split
  · split
    · exact henqueue ..
    · rfl
  · rfl
  · rfl

theorem closeAll_frame (cause : Cause) (gs : List GrantNum) (s : State) (k : SlotNum) :
    ((closeAll cause gs s).slot k).frame = (s.slot k).frame :=
  foldl_view (v := fun s => (s.slot k).frame) (fun s g => closeGrant_frame cause g s k) gs s

/-! ### What leaves the link's state -/

/-- The fields of the link. -/
def State.linkPart (s : State) :
    LinkState × Bool × StationNum × List QueuedReply × Nat × List SlotNum × Tx × Bool :=
  (s.link, s.linkEnable, s.self, s.replyQ, s.immCount, s.offers, s.tx, s.receiving)

/-- The fields of the link and the head frame states are the same, and no context has come to REPLY_WAIT. -/
structure LinkSame (s t : State) : Prop where
  part : t.linkPart = s.linkPart
  frame : ∀ sl, (t.slot sl).frame = (s.slot sl).frame
  wait : ∀ c, (t.ctx c).state = .replyWait → (s.ctx c).state = .replyWait

theorem LinkSame.refl (s : State) : LinkSame s s := ⟨rfl, fun _ => rfl, fun _ => id⟩

theorem LinkSame.trans {s t u : State} (h : LinkSame s t) (h' : LinkSame t u) : LinkSame s u :=
  ⟨h'.part.trans h.part, fun sl => (h'.frame sl).trans (h.frame sl), fun c hc => h.wait c (h'.wait c hc)⟩

theorem setNotice_linkSame (g : GrantNum) (n : Notice) (s : State) : LinkSame s (setNotice g n s) := by
  obtain ⟨_, h⟩ := setNotice_only g n s
  rw [h]
  exact ⟨rfl, fun _ => rfl, fun _ => id⟩

theorem closeGrant_linkSame (cause : Cause) (g : GrantNum) (s : State) : LinkSame s (closeGrant cause g s) := by
  have hframe := closeGrant_frame cause g s
  obtain ⟨_, _, h⟩ := closeGrant_only cause g s
  rw [h] at hframe ⊢
  exact ⟨rfl, hframe, fun _ => id⟩

theorem closeAll_linkSame (cause : Cause) (gs : List GrantNum) (s : State) : LinkSame s (closeAll cause gs s) := by
  have hframe := closeAll_frame cause gs s
  obtain ⟨_, _, h⟩ := closeAll_only cause gs s
  rw [h] at hframe ⊢
  exact ⟨rfl, hframe, fun _ => id⟩

theorem testReady_linkSame (g : GrantNum) (s : State) : LinkSame s (testReady g s) := by
  have hnotices := testReady_notices g s
  obtain ⟨_, _, _, _, _, _, _, h⟩ := testReady_only g s
  rw [h] at hnotices ⊢
  exact ⟨rfl, fun sl => frame_of_notices (hnotices sl), fun _ => id⟩

theorem allocate_linkSame (g : GrantNum) (rest : List GrantNum) (t : Terms) (s : State) :
    LinkSame s (allocate g rest t s) := by
  have hnotices := allocate_notices g rest t s
  obtain ⟨_, h⟩ := allocate_only g rest t s
  rw [h] at hnotices ⊢
  exact ⟨rfl, fun sl => frame_of_notices (hnotices sl), fun _ => id⟩

theorem modifyRecord_linkSame (sl : SlotNum) (f : Station → Station) (s : State) : LinkSame s (s.modifyRecord sl f) :=
  ⟨rfl, fun k => frame_of_notices (modifyRecord_notices sl f s k), fun _ => id⟩

theorem setRecord_linkSame (sl : SlotNum) (r : Option Station) (s : State) :
    LinkSame s (s.setSlot sl { s.slot sl with record := r }) :=
  ⟨rfl, fun k => frame_of_notices (setSlot_notices (x := { s.slot sl with record := r }) rfl k), fun _ => id⟩

theorem handAdmitted_linkSame (sl : SlotNum) (n : StationNum) (s : State) : LinkSame s (handAdmitted sl n s) := by
  have hnotices := handAdmitted_notices sl n s
  obtain ⟨_, _, _, _, h⟩ := handAdmitted_only sl n s
  rw [h] at hnotices ⊢
  exact ⟨rfl, fun sl => frame_of_notices (hnotices sl), fun _ => id⟩

theorem handRestarted_linkSame (sl : SlotNum) (x : Station) (epoch : BitVec 16) (swept : Nat) (s : State) :
    LinkSame s (handRestarted sl x epoch swept s) := by
  have hnotices := handRestarted_notices sl x epoch swept s
  obtain ⟨_, _, _, _, h⟩ := handRestarted_only sl x epoch swept s
  rw [h] at hnotices ⊢
  exact ⟨rfl, fun sl => frame_of_notices (hnotices sl), fun _ => id⟩

theorem placeBacklogHead_linkSame (s : State) : LinkSame s (placeBacklogHead s) := by
  have hnotices := placeBacklogHead_notices s
  obtain ⟨_, _, _, _, _, _, h⟩ := placeBacklogHead_only s
  rw [h] at hnotices ⊢
  exact ⟨rfl, fun sl => frame_of_notices (hnotices sl), fun _ => id⟩

theorem drainTest_linkSame (s : State) : LinkSame s (drainTest s) := by
  obtain ⟨_, _, _, _, h⟩ := drainTest_only s
  rw [h]
  exact ⟨rfl, fun _ => rfl, fun _ => id⟩

theorem setCtx_linkSame {s : State} {c : CtxNum} {x : Ctx} (hx : x.state = .replyWait → (s.ctx c).state = .replyWait) :
    LinkSame s (s.setCtx c x) := by
  refine ⟨rfl, fun _ => rfl, fun d => ?_⟩
  rw [State.ctx_setCtx]
  split
  · next h => rw [← h]; exact hx
  · exact id

/-! ### The link's state -/

/-- The link's state is consistent, but for what the transmitter owes at the end of an event. -/
structure State.LinkSound (s : State) : Prop where
  quiet : s.QuietLink
  enable : s.LinkFollowsEnable
  replies : s.RepliesCounted
  offers : s.OffersSound

theorem State.LinkSound.of_same {s t : State} (h : LinkSame s t) (hs : s.LinkSound) : t.LinkSound := by
  obtain ⟨hpart, hframe, hwait⟩ := h
  simp only [State.linkPart, Prod.mk.injEq] at hpart
  obtain ⟨hlink, henable, hself, hq, himm, hoffers, htx, hrec⟩ := hpart
  obtain ⟨hquiet, hfollows, hreplies, hoff⟩ := hs
  refine ⟨fun hl => ?_, ?_, ?_, ?_⟩
  · obtain ⟨h1, h2, h3, h4, h5, h6, h7⟩ := hquiet (hlink ▸ hl)
    exact ⟨hq.trans h1, himm.trans h2, hoffers.trans h3, htx.trans h4, hrec.trans h5, fun sl =>
      (hframe sl).trans (h6 sl),
      fun c hc => h7 c (hwait c hc)⟩
  · unfold State.LinkFollowsEnable State.selfValid at *
    rw [hlink, henable, hself]
    exact hfollows
  · unfold State.RepliesCounted at *
    rw [hq, himm, htx]
    exact hreplies
  · unfold State.OffersSound at *
    rw [hoffers, htx]
    simp only [hframe]
    exact hoff

/-- While something is under way on the link it is UP. -/
theorem State.QuietLink.up_of_tx {s : State} (h : s.QuietLink) (ht : s.tx ≠ .free) : s.link = .up := by
  by_contra hl
  exact ht (h hl).2.2.2.1

/-- With the link UP, only the three other parts of the consistency say anything. -/
theorem State.LinkSound.of_up {s : State} (hl : s.link = .up) (he : s.linkEnable = true) (hv : s.selfValid = true)
    (hr : s.RepliesCounted) (ho : s.OffersSound) : s.LinkSound where
  quiet h := absurd hl h
  enable := by
    refine ⟨⟨fun h => ?_, fun h => ?_⟩, fun h => ?_⟩
    · rw [he] at h; cases h
    · rw [hl] at h; cases h
    · rw [hv] at h; cases h
  replies := hr
  offers := ho

/-- While the link is not DOWN it is enabled and SELF is valid. -/
theorem State.LinkFollowsEnable.of_not_down {s : State} (h : s.LinkFollowsEnable) (hl : s.link ≠ .down) :
    s.linkEnable = true ∧ s.selfValid = true := by
  obtain ⟨hdown, hself⟩ := h
  have he : s.linkEnable = true := Bool.not_eq_false _ ▸ mt hdown.1 hl
  exact ⟨he, Bool.not_eq_false _ ▸ mt hself (by rw [he]; decide)⟩

/-- An act on an UP link that leaves the link's state and its enable. -/
theorem State.LinkSound.keep_up {s t : State} (hs : s.LinkSound) (hl : s.link = .up)
    (h : (t.link, t.linkEnable, t.self) = (s.link, s.linkEnable, s.self)) (hr : t.RepliesCounted) (ho : t.OffersSound) :
    t.LinkSound := by
  simp only [Prod.mk.injEq] at h
  obtain ⟨hlink, henable, hself⟩ := h
  obtain ⟨he, hv⟩ := hs.enable.of_not_down (by rw [hl]; decide)
  exact .of_up (hlink.trans hl) (henable.trans he) (by unfold State.selfValid at *; rw [hself]; exact hv) hr ho

/-! ### The acts on the link -/

/-- Nothing under way: what the link's leaving UP and the resets leave. -/
theorem linkSound_of_empty {s : State} (hq : s.replyQ = []) (hi : s.immCount = 0) (ho : s.offers = [])
    (ht : s.tx = .free)
    (hr : s.receiving = false ∨ s.link = .up) (hf : ∀ sl, (s.slot sl).frame = .none)
    (hc : ∀ c, (s.ctx c).state ≠ .replyWait) (he : s.LinkFollowsEnable) : s.LinkSound where
  quiet hl := ⟨hq, hi, ho, ht, hr.resolve_right hl, hf, hc⟩
  enable := he
  replies := by
    unfold State.RepliesCounted
    rw [hq, hi, ht]
    exact ⟨rfl, Nat.zero_le _, fun h => by cases h⟩
  offers := by
    unfold State.OffersSound
    rw [ho, ht]
    refine ⟨List.nodup_nil, fun sl => ⟨?_, ?_⟩⟩
    · simp [hf]
    · simp [hf]

/-- The link part of the state that the link's leaving UP leaves. -/
theorem linkLeavesUp_linkPart (next : LinkState) (s : State) :
    (linkLeavesUp next s).linkPart = (next, s.linkEnable, s.self, [], 0, [], .free, false) :=
  let ⟨_, _, _, _, _, _, h⟩ := linkLeavesUp_only next s
  (congrArg State.linkPart h).trans rfl

theorem linkLeavesUp_link (next : LinkState) (s : State) : (linkLeavesUp next s).link = next :=
  congrArg Prod.fst (linkLeavesUp_linkPart next s)

theorem linkLeavesUp_same_left (next : LinkState) (s : State) :
    LinkSame ({ s with link := next } : State).withLinkLeft (linkLeavesUp next s) := by
  rw [linkLeavesUp_eq]
  simp only []
  split
  · rw [← drainTest_eq_withDrainTest]
    exact drainTest_linkSame _
  · exact .refl _

/-- The link has left UP for a state that goes with the enable. -/
theorem linkLeavesUp_linkSound {next : LinkState} {s : State} (he : s.linkEnable = false ↔ next = .down)
    (hv : s.selfValid = false → s.linkEnable = false) : (linkLeavesUp next s).LinkSound := by
  refine .of_same (linkLeavesUp_same_left next s) (linkSound_of_empty rfl rfl rfl rfl (.inl rfl) (fun sl => ?_)
    (fun c => ?_) ⟨he, hv⟩)
  · simp [State.withLinkLeft, State.slot]
  · rw [State.withLinkLeft_ctx, Ctx.dropped]
    split
    · simp
    · assumption

/-- An offered frame: the slot has joined the offer list, or there was no frame to build. -/
theorem offerFrame_cases (sl : SlotNum) (s : State) :
    offerFrame sl s = s ∨ ∃ f, offerFrame sl s =
      { s.setSlot sl { s.slot sl with frame := .offered f } with offers := s.offers ++ [sl] } := by
  unfold offerFrame
  split
  · exact .inl rfl
  · split
    · exact .inr ⟨_, rfl⟩
    · exact .inl rfl
    · exact .inl rfl

theorem offerFrame_offersSound {sl : SlotNum} {s : State} (hf : (s.slot sl).frame = .none) (hs : s.OffersSound) :
    (offerFrame sl s).OffersSound := by
  obtain h | ⟨f, h⟩ := offerFrame_cases sl s
  · rw [h]; exact hs
  · obtain ⟨hnodup, hslot⟩ := hs
    have hnew : sl ∉ s.offers := fun hm => by
      obtain ⟨f, hof⟩ := (hslot sl).1.1 hm
      rw [hf] at hof; cases hof
    rw [h]
    refine ⟨List.nodup_append.2 ⟨hnodup, List.nodup_singleton sl, fun a ha b hb => ?_⟩, fun k => ?_⟩
    · rintro rfl
      exact hnew (List.mem_singleton.1 hb ▸ ha)
    · obtain ⟨hoffered, hsending⟩ := hslot k
      change (k ∈ s.offers ++ [sl] ↔ ∃ f', ((s.setSlot sl _).slot k).frame = _) ∧
        (((s.setSlot sl _).slot k).frame = _ ↔ ∃ f', s.tx = _)
      rw [State.slot_setSlot]
      by_cases hk : sl = k
      · subst hk
        have : ¬ ∃ f', s.tx = .notice (some sl) f' := fun hx => by
          have := hsending.2 hx
          rw [hf] at this; cases this
        simp [this]
      · simp only [hk, if_false, List.mem_append, List.mem_singleton, Ne.symm hk, or_false]
        exact ⟨hoffered, hsending⟩

/-- The frame of a slot is none and, if it was offered or sending, the offer list and the transmitter know. -/
theorem withdrawFrame_offersSound {sl : SlotNum} {s : State} (hs : s.OffersSound) :
    (withdrawFrame sl s).OffersSound := by
  obtain ⟨hnodup, hslot⟩ := hs
  have hframe : ∀ k, ((s.setSlot sl { s.slot sl with frame := .none }).slot k).frame =
      if sl = k then .none else (s.slot k).frame := fun k => by
    rw [State.slot_setSlot]
    split <;> rfl
  unfold withdrawFrame
  split
  · exact ⟨hnodup, hslot⟩
  · next f hf =>
    refine ⟨hnodup.filter _, fun k => ?_⟩
    obtain ⟨hoffered, hsending⟩ := hslot k
    change (k ∈ s.offers.filter _ ↔ ∃ f', ((s.setSlot sl _).slot k).frame = _) ∧
      (((s.setSlot sl _).slot k).frame = _ ↔ ∃ f', s.tx = _)
    rw [hframe]
    by_cases hk : sl = k
    · subst hk
      rw [if_pos rfl, ← hsending, hf]
      simp
    · rw [if_neg hk]
      simp [← hoffered, hsending, Ne.symm hk]
  · next hf =>
    refine ⟨hnodup, fun k => ?_⟩
    obtain ⟨hoffered, hsending⟩ := hslot k
    change (k ∈ s.offers ↔ ∃ f', ((s.setSlot sl _).slot k).frame = _) ∧
        (((s.setSlot sl _).slot k).frame = _ ↔ ∃ f', _ = _)
    rw [hframe]
    obtain ⟨f, htx⟩ := (hslot sl).2.1 hf
    by_cases hk : sl = k
    · subst hk
      rw [if_pos rfl, hoffered, hf, htx]
      simp
    · rw [if_neg hk, hoffered, hsending, htx]
      simp [hk]

/-- What a transmitter's choice is, with the link UP and the transmitter free (R134). -/
theorem txTake_cases (s : State) :
    txTake s = s ∨ (s.link = .up ∧ s.tx = .free ∧
      ((s.replyQ ≠ [] ∧ txTake s = { s with tx := .reply }) ∨
        ∃ sl rest f, s.replyQ = [] ∧ s.offers = sl :: rest ∧ (s.slot sl).frame = .offered f ∧
          txTake s =
            { s.setSlot sl { s.slot sl with frame := .sending } with tx := .notice (some sl) f, offers := rest })) := by
  by_cases h : s.link = .up ∧ s.tx = .free
  · obtain ⟨hl, ht⟩ := h
    by_cases hq : s.replyQ = []
    · by_cases ho : s.offers = []
      · exact .inl (txTake_idle hq ho)
      · obtain ⟨sl, rest, ho⟩ := List.exists_cons_of_ne_nil ho
        by_cases hf : ∃ f, (s.slot sl).frame = .offered f
        · obtain ⟨f, hf⟩ := hf
          exact .inr ⟨hl, ht, .inr ⟨sl, rest, f, hq, ho, hf, txTake_notice hl ht hq ho hf⟩⟩
        · refine .inl ?_
          simp only [txTake, hl, ht, hq, ho, and_self, if_true]
          split
          · next f hf' => exact absurd ⟨f, hf'⟩ hf
          · rfl
          · rfl
    · obtain ⟨q, rest, hq'⟩ := List.exists_cons_of_ne_nil hq
      exact .inr ⟨hl, ht, .inl ⟨hq, txTake_reply hl ht hq'⟩⟩
  · exact .inl (by unfold txTake; rw [if_neg h])

theorem txTake_linkSound {s : State} (hs : s.LinkSound) : (txTake s).LinkSound := by
  obtain h | ⟨hl, ht, ⟨hq, h⟩ | ⟨sl, rest, f, hq, ho, hf, h⟩⟩ := txTake_cases s
  · rw [h]; exact hs
  · obtain ⟨hcount, hlimit, -⟩ := hs.replies
    obtain ⟨hnodup, hslot⟩ := hs.offers
    rw [h]
    refine hs.keep_up hl rfl ⟨hcount, hlimit, fun _ => hq⟩ ⟨hnodup, fun k => ⟨(hslot k).1, (hslot k).2.trans ?_⟩⟩
    simp [ht]
  · obtain ⟨hcount, hlimit, -⟩ := hs.replies
    obtain ⟨hnodup, hslot⟩ := hs.offers
    rw [ho] at hnodup hslot
    obtain ⟨hnew, hnodup⟩ := List.nodup_cons.1 hnodup
    rw [h]
    refine hs.keep_up hl rfl ⟨hcount, hlimit, fun h => Tx.noConfusion h⟩ ⟨hnodup, fun k => ?_⟩
    obtain ⟨hoffered, hsending⟩ := hslot k
    change (k ∈ rest ↔ ∃ f', ((s.setSlot sl _).slot k).frame = _) ∧
      (((s.setSlot sl _).slot k).frame = _ ↔ ∃ f', Tx.notice (some sl) f = _)
    rw [State.slot_setSlot]
    by_cases hk : sl = k
    · subst hk
      simp [hnew]
    · simp only [hk, if_false, Tx.notice.injEq, Option.some.injEq, false_and, exists_false, iff_false]
      refine ⟨?_, fun hsend => ?_⟩
      · rw [← hoffered, List.mem_cons]
        simp [Ne.symm hk]
      · obtain ⟨f', hx⟩ := hsending.1 hsend
        rw [ht] at hx; cases hx

/-- Nothing but the head frame states, the offer list and the transmitter's frame changes when a frame is withdrawn. -/
theorem withdrawFrame_linkSound {sl : SlotNum} {s : State} (hs : s.LinkSound) : (withdrawFrame sl s).LinkSound := by
  by_cases hl : s.link = .up
  · have hoffers := withdrawFrame_offersSound (sl := sl) hs.offers
    have hreply : (withdrawFrame sl s).tx = .reply → s.tx = .reply := by
      unfold withdrawFrame
      split
      · exact id
      · exact id
      · simp only
        split
        · split <;> intro h <;> cases h
        · exact id
    obtain ⟨_, _, _, h⟩ := withdrawFrame_only sl s
    rw [h] at hoffers hreply ⊢
    obtain ⟨hcount, hlimit, htx⟩ := hs.replies
    exact hs.keep_up hl rfl ⟨hcount, hlimit, fun h => htx (hreply h)⟩ hoffers
  · have hframe := (hs.quiet hl).2.2.2.2.2.1 sl
    rw [show withdrawFrame sl s = s by simp [withdrawFrame, hframe]]
    exact hs

theorem setQueue_linkSame (sl : SlotNum) (q : List GrantNum) (s : State) :
    LinkSame s (s.setSlot sl { s.slot sl with queue := q }) := by
  refine ⟨rfl, fun k => ?_, fun _ => id⟩
  rw [State.slot_setSlot]
  split
  · next h => rw [← h]
  · rfl

theorem leaveQueue_linkSound {sl : SlotNum} {outcome : Notice} {s : State} (hs : s.LinkSound) :
    (leaveQueue sl outcome s).LinkSound := by
  unfold leaveQueue
  split
  · exact hs
  · exact .of_same (setQueue_linkSame ..) (withdrawFrame_linkSound (hs.of_same (setNotice_linkSame ..)))

theorem foldl_linkSame {α : Type} {f : State → α → State} (hf : ∀ s a, LinkSame s (f s a)) (l : List α) (s : State) :
    LinkSame s (l.foldl f s) := by
  induction l generalizing s with
  | nil => exact .refl s
  | cons a l ih => exact (hf s a).trans (ih _)

theorem abandonQueue_linkSound {sl : SlotNum} {s : State} (hs : s.LinkSound) : (abandonQueue sl s).LinkSound :=
  .of_same (setQueue_linkSame ..) (withdrawFrame_linkSound hs)

/-- A transmission of a reply or of a notice frame completes: the transmitter is free, and no slot is SENDING. -/
theorem replySent_offersSound {s t : State} (hs : s.OffersSound) (ht : s.tx = .reply) (ho : t.offers = s.offers)
    (hf : ∀ sl, t.slot sl = s.slot sl) (htx : t.tx = .free) : t.OffersSound := by
  obtain ⟨hnodup, hslot⟩ := hs
  refine ⟨ho ▸ hnodup, fun k => ?_⟩
  rw [ho, hf, htx]
  refine ⟨(hslot k).1, (hslot k).2.trans ?_⟩
  simp [ht]

/-- Every act keeps the link's state consistent. -/
theorem Act.linkSound {e : Effect} {s t : State} (h : Act e s t) (hs : s.LinkSound) : t.LinkSound := by
  have hsame : ∀ {u : State}, LinkSame s u → u.LinkSound := fun h => .of_same h hs
  obtain ⟨hquiet, henable, ⟨hcount, hlimit, hreply⟩, hoffers⟩ := id hs
  cases h with
  | registers | phaseRestarts | countsInFlight | renews | amends | port | fifoJoins | fifoLeaves | reports
  | setsLimits | setsTiming | holds | resumes | trainingRestarts => exact hsame ⟨rfl, fun _ => rfl, fun _ => id⟩
  | receptionEnds =>
    exact ⟨fun hl => let ⟨h1, h2, h3, h4, _, h6, h7⟩ := hquiet hl; ⟨h1, h2, h3, h4, rfl, h6, h7⟩, henable,
      ⟨hcount, hlimit, hreply⟩, hoffers⟩
  | trains _ hv hl =>
    refine ⟨fun _ => hquiet (by rw [hl]; decide),
      ⟨⟨fun h => Bool.noConfusion h, fun h => LinkState.noConfusion h⟩, fun h => ?_⟩, ⟨hcount, hlimit, hreply⟩, hoffers⟩
    rw [show s.selfValid = false from h] at hv; cases hv
  | enables _ hv he hl => exact absurd (henable.1.1 he) hl
  | disables _ hl =>
    exact ⟨fun _ => hquiet hl, ⟨⟨fun _ => rfl, fun _ => rfl⟩, fun _ => rfl⟩, ⟨hcount, hlimit, hreply⟩, hoffers⟩
  | goesDown => exact linkLeavesUp_linkSound ⟨fun _ => rfl, fun _ => rfl⟩ fun _ => rfl
  | losesSync _ hl =>
    obtain ⟨he, hv⟩ := henable.of_not_down (by rw [hl]; decide)
    refine .of_same (s := linkLeavesUp .training s) ⟨rfl, fun _ => rfl, fun _ => id⟩ (linkLeavesUp_linkSound ?_ ?_)
    · simp [he]
    · simp [hv]
  | entersUp _ hl =>
    obtain ⟨he, hv⟩ := henable.of_not_down (by rw [hl]; decide)
    exact .of_up rfl he hv ⟨hcount, hlimit, hreply⟩ hoffers
  | transmits => exact txTake_linkSound hs
  | offers _ sl hl hf =>
    have ho := offerFrame_offersSound hf hoffers
    obtain ⟨_, _, h⟩ := offerFrame_only sl s
    rw [h] at ho ⊢
    exact hs.keep_up hl rfl ⟨hcount, hlimit, hreply⟩ ho
  | replies _ r hl hc =>
    refine hs.keep_up hl rfl ⟨?_, Nat.succ_le_of_lt hc, fun _ => by simp⟩ hoffers
    simp [← hcount, List.countP_append]
  | replySent _ f rest ht hq =>
    have hl := hquiet.up_of_tx (by rw [ht]; decide)
    refine hs.keep_up hl rfl ⟨?_, by simp only; omega, fun h => Tx.noConfusion h⟩
      (replySent_offersSound hoffers ht rfl (fun _ => rfl) rfl)
    simp only [hcount, hq]
    simp
  | contextReplySent _ c f rest ht hq =>
    have hl := hquiet.up_of_tx (by rw [ht]; decide)
    refine hs.keep_up hl rfl ⟨?_, hlimit, fun h => Tx.noConfusion h⟩
      (replySent_offersSound hoffers ht rfl (fun _ => rfl) rfl)
    simp only [hcount, hq]
    simp
  | noticeSent _ sl f ht =>
    have hl := hquiet.up_of_tx (by rw [ht]; intro h; cases h)
    have hsend : (s.slot sl).frame = .sending := (hoffers.2 sl).2.2 ⟨f, ht⟩
    refine hs.keep_up hl rfl ⟨hcount, hlimit, fun h => Tx.noConfusion h⟩ ⟨hoffers.1, fun k => ?_⟩
    obtain ⟨hoffered, hsending⟩ := hoffers.2 k
    change (k ∈ s.offers ↔ ∃ f', ((s.setSlot sl _).slot k).frame = _) ∧
      (((s.setSlot sl _).slot k).frame = _ ↔ ∃ f', Tx.free = _)
    rw [State.slot_setSlot]
    by_cases hk : sl = k
    · subst hk
      rw [if_pos rfl, hoffered, hsend]
      simp
    · rw [if_neg hk, hoffered, hsending, ht]
      simp [hk]
  | detachedSent _ f ht =>
    have hl := hquiet.up_of_tx (by rw [ht]; intro h; cases h)
    refine hs.keep_up hl rfl ⟨hcount, hlimit, fun h => Tx.noConfusion h⟩ ⟨hoffers.1, fun k => ⟨(hoffers.2 k).1, ?_⟩⟩
    refine (hoffers.2 k).2.trans ?_
    simp [ht]
  | recounts => exact hsame (setNotice_linkSame ..)
  | leavesQueue => exact leaveQueue_linkSound hs
  | abandons _ sl r =>
    exact .of_same (foldl_linkSame (fun s g => setNotice_linkSame g .abandoned s) _ _) (abandonQueue_linkSound hs)
  | closes => exact hsame (closeGrant_linkSame ..)
  | countsDown => exact hsame (LinkSame.trans (t := countDownAll s) ⟨rfl, fun _ => rfl, fun _ => id⟩
      (closeAll_linkSame ..))
  | tested => exact hsame (testReady_linkSame ..)
  | issues => exact hsame (allocate_linkSame ..)
  | changesRecord _ sl f => exact hsame (modifyRecord_linkSame sl f s)
  | creates _ sl r => exact hsame (setRecord_linkSame sl (some r) s)
  | admits _ sl r => exact hsame ((setRecord_linkSame sl (some r) s).trans (handAdmitted_linkSame sl r.number _))
  | restarts => exact hsame (handRestarted_linkSame ..)
  | forgets _ sl => exact hsame (setRecord_linkSame sl none s)
  | changesContext _ c x hx => exact hsame (setCtx_linkSame fun h => hx ▸ h)
  | binds _ c x hh hx => exact hsame (setCtx_linkSame fun h => absurd h hx)
  | idles _ c => exact hsame ((setCtx_linkSame fun h => CtxState.noConfusion h).trans (drainTest_linkSame _))
  | queuesReply _ c f hl hm =>
    refine hs.keep_up hl rfl ⟨?_, hlimit, fun _ => by simp⟩ hoffers
    simp [← hcount, List.countP_append]
  | placesBacklog => exact hsame (placeBacklogHead_linkSame s)
  | drains => exact hsame (drainTest_linkSame s)

/-! ### The transmitter (R134) -/

theorem State.TransmitterEager.of_same {s t : State} (h : LinkSame s t) (hs : s.TransmitterEager) :
    t.TransmitterEager := by
  have hpart := h.part
  simp only [State.linkPart, Prod.mk.injEq] at hpart
  obtain ⟨hlink, -, -, hq, -, hoffers, htx, -⟩ := hpart
  unfold State.TransmitterEager at *
  rw [hlink, hq, hoffers, htx]
  exact hs

theorem transmitterEager_of_not_up {s : State} (h : s.link ≠ .up) : s.TransmitterEager := fun hl => absurd hl h

/-- The transmitter's choice leaves it nothing to send while it is free: an offered slot has a frame. -/
theorem txTake_eager {s : State} (hs : s.OffersSound) : (txTake s).TransmitterEager := by
  intro hl ht
  have hup : s.link = .up := by
    obtain ⟨_, _, _, h⟩ := txTake_only s
    rw [h] at hl; exact hl
  by_cases hfree : s.tx = .free
  · by_cases hq : s.replyQ = []
    · by_cases ho : s.offers = []
      · rw [txTake_idle hq ho]; exact ⟨hq, ho⟩
      · obtain ⟨sl, rest, ho⟩ := List.exists_cons_of_ne_nil ho
        obtain ⟨f, hf⟩ := (hs.2 sl).1.1 (by rw [ho]; exact List.mem_cons_self)
        rw [txTake_notice hup hfree hq ho hf] at ht
        cases ht
    · obtain ⟨q, rest, hq⟩ := List.exists_cons_of_ne_nil hq
      rw [txTake_reply hup hfree hq] at ht
      cases ht
  · rw [txTake_busy hfree] at ht
    exact absurd ht hfree

/-- A withdrawn frame gives the transmitter nothing to send. -/
theorem withdrawFrame_eager {sl : SlotNum} {s : State} (hs : s.TransmitterEager) :
    (withdrawFrame sl s).TransmitterEager := by
  unfold withdrawFrame
  split
  · exact hs
  · intro hl ht
    obtain ⟨hq, ho⟩ := hs hl ht
    refine ⟨hq, ?_⟩
    change s.offers.filter _ = []
    rw [ho]; rfl
  · intro hl ht
    refine hs hl ?_
    simp only at ht
    split at ht
    · split at ht <;> cases ht
    · exact ht

/-- An act leaves the transmitter settled where its effect says so. -/
theorem Act.eager {e : Effect} {s t : State} (h : Act e s t) (hs : s.LinkSound) {a : Bool}
    (ha : a = true → s.TransmitterEager) (hb : e.settles a = true) : t.TransmitterEager := by
  cases h with
  | entersUp | offers | replies | replySent | contextReplySent | noticeSent | detachedSent | queuesReply => cases hb
  | transmits => exact txTake_eager hs.offers
  | registers | phaseRestarts | receptionEnds | countsInFlight | renews | amends | port | fifoJoins | fifoLeaves
  | reports | setsLimits | setsTiming | holds | resumes => exact ha hb
  | trains | disables => exact transmitterEager_of_not_up fun h => LinkState.noConfusion h
  | enables _ hv he hl => exact absurd (hs.enable.1.1 he) hl
  | trainingRestarts => exact ha hb
  | goesDown => exact transmitterEager_of_not_up (by rw [linkLeavesUp_link]; decide)
  | losesSync =>
    have hl : (linkLeavesUp .training s).link ≠ .up := by rw [linkLeavesUp_link]; decide
    exact transmitterEager_of_not_up hl
  | recounts => exact (ha hb).of_same (setNotice_linkSame ..)
  | leavesQueue _ sl outcome =>
    unfold leaveQueue
    split
    · exact ha hb
    · exact .of_same (setQueue_linkSame ..) (withdrawFrame_eager ((ha hb).of_same (setNotice_linkSame ..)))
  | abandons _ sl r =>
    exact .of_same (foldl_linkSame (fun s g => setNotice_linkSame g .abandoned s) _ _)
      (.of_same (setQueue_linkSame ..) (withdrawFrame_eager (ha hb)))
  | closes => exact (ha hb).of_same (closeGrant_linkSame ..)
  | countsDown =>
    exact (ha hb).of_same
      (LinkSame.trans (t := countDownAll s) ⟨rfl, fun _ => rfl, fun _ => id⟩ (closeAll_linkSame ..))
  | tested => exact (ha hb).of_same (testReady_linkSame ..)
  | issues => exact (ha hb).of_same (allocate_linkSame ..)
  | changesRecord _ sl f => exact (ha hb).of_same (modifyRecord_linkSame sl f s)
  | creates _ sl r => exact (ha hb).of_same (setRecord_linkSame sl (some r) s)
  | admits _ sl r =>
    exact (ha hb).of_same ((setRecord_linkSame sl (some r) s).trans (handAdmitted_linkSame sl r.number _))
  | restarts => exact (ha hb).of_same (handRestarted_linkSame ..)
  | forgets _ sl => exact (ha hb).of_same (setRecord_linkSame sl none s)
  | changesContext | binds => exact (ha hb)
  | idles _ c =>
    exact (ha hb).of_same ((setCtx_linkSame fun h => CtxState.noConfusion h).trans
      (drainTest_linkSame (s.enter c .idle)))
  | placesBacklog => exact (ha hb).of_same (placeBacklogHead_linkSame s)
  | drains => exact (ha hb).of_same (drainTest_linkSame s)

/-- A chain of acts keeps the link's state consistent, and leaves the transmitter settled where its flag says so. -/
theorem Run.linkSound {a b : Bool} {s t : State} (h : Run a s b t) (hs : s.LinkSound)
    (ha : a = true → s.TransmitterEager) : t.LinkSound ∧ (b = true → t.TransmitterEager) := by
  induction h with
  | refl => exact ⟨hs, ha⟩
  | step _ hact ih =>
    obtain ⟨hsound, heager⟩ := ih hs ha
    exact ⟨hact.linkSound hsound, fun hb => hact.eager hsound heager hb⟩

/-- The link's state with a settled transmitter. -/
def State.LinkSettled (s : State) : Prop := s.LinkSound ∧ s.TransmitterEager

theorem State.LinkSettled.of_same {s t : State} (h : LinkSame s t) (hs : s.LinkSettled) : t.LinkSettled :=
  ⟨hs.1.of_same h, hs.2.of_same h⟩

theorem Settles.linkSettled {s t : State} (h : Settles s t) (hs : s.LinkSettled) : t.LinkSettled :=
  let ⟨hsound, heager⟩ := Run.linkSound h hs.1 fun _ => hs.2
  ⟨hsound, heager rfl⟩

theorem powerOn_linkSettled (low out : Bool) (straps : BitVec 6) (s : State) :
    (powerOn low out straps s).LinkSettled := by
  have hquiet := reset_quietLink (by decide)
  obtain ⟨-, -, -, -, -, hframe, hwait⟩ := hquiet
  exact ⟨linkSound_of_empty rfl rfl rfl rfl (.inl rfl) hframe hwait ⟨⟨fun _ => rfl, fun _ => rfl⟩, fun _ => rfl⟩,
    fun _ _ => ⟨rfl, rfl⟩⟩

theorem engineReset_linkSettled {s : State} (hs : s.LinkSettled) : (engineReset s).LinkSettled := by
  refine ⟨linkSound_of_empty rfl rfl rfl rfl ?_ (fun sl => ?_) (fun c => ?_) hs.1.enable, fun _ _ => ⟨rfl, rfl⟩⟩
  · by_cases hl : s.link = .up
    · exact .inr hl
    · exact .inl (hs.1.quiet hl).2.2.2.2.1
  · simp [engineReset, State.slot, Slot.engineReset]
  · simp [engineReset, State.ctx, Ctx.engineReset]

theorem acceptWrite_linkSame (op : LineOp) (res : LineResult) (s : State) : LinkSame s (acceptWrite op res s) := by
  obtain ⟨_, h⟩ := acceptWrite_only op res s
  rw [h]
  exact ⟨rfl, fun _ => rfl, fun _ => id⟩

/-- Every move keeps the link's state consistent with the transmitter settled. -/
theorem Moves.linkSettled {c : Instr} {s t : State} (h : Moves c s t) (hs : s.LinkSettled) : t.LinkSettled := by
  have hcq : ∀ rest, ({ s with cq := rest } : State).LinkSettled := fun _ =>
    .of_same (s := s) ⟨rfl, fun _ => rfl, fun _ => id⟩ hs
  cases h with
  | powers low out straps => exact powerOn_linkSettled low out straps s
  | acts _ h => exact h.linkSettled hs
  | resets _ _ h => exact engineReset_linkSettled (h.linkSettled hs)
  | frees _ _ _ _ h => exact h.linkSettled (hcq _)
  | places => exact (hcq _).of_same (placeBacklogHead_linkSame _)
  | ends _ _ h =>
    refine h.linkSettled (.of_same (acceptWrite_linkSame ..) ?_)
    exact .of_same (s := s) ⟨rfl, fun _ => rfl, fun _ => id⟩ hs

/-- Settles O57: each act on the link keeps its state consistent, and each event that gives the transmitter something to
send ends with its choice. -/
theorem linkStateStaysConsistent : Obligations.LinkStateStaysConsistent := by
  intro s t hquiet henable hreplies hoffers heager hstep
  have hs : s.LinkSettled := ⟨⟨hquiet, henable, hreplies, hoffers⟩, heager⟩
  obtain rfl | ⟨c, rest, -, hmoves⟩ := step_moves hstep
  · exact ⟨hquiet, henable, hreplies, hoffers, heager⟩
  · have ht := hmoves.linkSettled (.of_same (s := s) ⟨rfl, fun _ => rfl, fun _ => id⟩ hs)
    obtain ⟨⟨h1, h2, h3, h4⟩, h5⟩ := ht
    exact ⟨h1, h2, h3, h4, h5⟩

end Sys2Proof.Machine
end


section
/-! PROOFS. The completion queue, the command FIFO and the event backlog under every step (R55, R139, R164, R167 to
R169). -/

namespace Sys2Proof.Machine

/-! ### The operations on one grant record -/

theorem setNotice_grant (g : GrantNum) (n : Notice) (s : State) (k : GrantNum) :
    (setNotice g n s).grant k = if g = k then (s.grant k).withNotice n else s.grant k := by
  unfold setNotice Grant.withNotice
  split
  · next t c hb =>
    rw [State.grant_setBody]
    split
    · next h => rw [← h, hb]
    · rfl
  all_goals
    next hb =>
      split
      · next h => rw [← h, hb]
      · rfl

theorem setRetireWait_grant (g : GrantNum) (s : State) (k : GrantNum) :
    (setRetireWait g s).grant k = if g = k then (s.grant k).waiting else s.grant k := by
  unfold setRetireWait Grant.waiting
  split
  · next t c hb =>
    rw [State.grant_setBody]
    split
    · next h => rw [← h, hb]
    · rfl
  all_goals
    next hb =>
      split
      · next h => rw [← h, hb]
      · rfl

theorem retire_grant {g : GrantNum} {s : State} {t : Terms} {c : Closing} (hb : (s.grant g).body = .closing t c)
    (k : GrantNum) : (retire g s).grant k = if g = k then (s.grant k).freed else s.grant k := by
  rw [retire_closing hb]
  refine (freeGrant_grant g k t.holder s).trans ?_
  split
  · next h => rw [← h]; rfl
  · rfl

/-! ### The sources of the backlog's entries -/

/-- A CLOSING record that waits in the backlog: its retire wait is yes and its notice state finished (R35). -/
def Grant.isWaiting (x : Grant) : Bool :=
  match x.body with
  | .closing _ c => c.retireWait && c.notice.finished
  | .free | .live _ => false

theorem eventSound_grant (s : State) (g : GrantNum) : s.EventSound (.grant g) ↔ (s.grant g).isWaiting = true := by
  simp only [State.EventSound, Grant.isWaiting]
  cases hb : (s.grant g).body with
  | free | live => simp
  | closing t c =>
    simp only [Body.closing.injEq, Bool.and_eq_true]
    exact ⟨fun ⟨_, _, ⟨_, hc⟩, h⟩ => hc ▸ h, fun h => ⟨t, c, ⟨rfl, rfl⟩, h⟩⟩

/-- What a slot's record says of its waiting events: there is one, and the waiting restarted event (R55). -/
def Slot.waits (x : Slot) : Option (Option RestartWait) := x.record.map Station.restartWaiting

theorem eventSound_admitted (s : State) (sl : SlotNum) : s.EventSound (.admitted sl) ↔ (s.slot sl).waits ≠ none := by
  unfold State.EventSound Slot.waits
  rw [ne_eq, Option.map_eq_none_iff, ← ne_eq, Option.ne_none_iff_exists']

theorem eventSound_restarted (s : State) (sl : SlotNum) :
    s.EventSound (.restarted sl) ↔ ∃ w, (s.slot sl).waits = some (some w) := by
  unfold State.EventSound Slot.waits
  simp only [Option.map_eq_some_iff]
  exact ⟨fun ⟨r, w, h⟩ => ⟨w, r, h⟩, fun ⟨w, r, h⟩ => ⟨r, w, h⟩⟩

theorem waits_of_record {x y : Slot} (h : x.record = y.record) : x.waits = y.waits :=
  congrArg (Option.map Station.restartWaiting) h

/-- What the sources of backlog entries are to stay: grants that wait, the records with their waiting events, HELD. -/
structure EventsKept (s t : State) : Prop where
  grant : ∀ g, (s.grant g).isWaiting = true → (t.grant g).isWaiting = true
  waits : ∀ sl, (t.slot sl).waits = (s.slot sl).waits
  hold : s.hold = .held → t.hold = .held

theorem EventsKept.refl (s : State) : EventsKept s s := ⟨fun _ => id, fun _ => rfl, id⟩

theorem EventsKept.trans {s t u : State} (h : EventsKept s t) (h' : EventsKept t u) : EventsKept s u :=
  ⟨fun g hg => h'.grant g (h.grant g hg), fun sl => (h'.waits sl).trans (h.waits sl), fun hh => h'.hold (h.hold hh)⟩

theorem EventsKept.sound {s t : State} (h : EventsKept s t) {e : Event} (hs : s.EventSound e) : t.EventSound e := by
  cases e with
  | grant g => exact (eventSound_grant t g).2 (h.grant g ((eventSound_grant s g).1 hs))
  | admitted sl => exact (eventSound_admitted t sl).2 (h.waits sl ▸ (eventSound_admitted s sl).1 hs)
  | restarted sl => exact (eventSound_restarted t sl).2 (h.waits sl ▸ (eventSound_restarted s sl).1 hs)
  | holdReached => exact h.hold hs

/-- An act that leaves the queues and what their entries' sources are to stay keeps the queues sound. -/
theorem State.QueuesSound.of_kept {s t : State} (hs : s.QueuesSound) (h : EventsKept s t)
    (hq : t.hostQueues = s.hostQueues) : t.QueuesSound := by
  simp only [State.hostQueues, Prod.mk.injEq] at hq
  obtain ⟨hcq, hbacklog, hfifo⟩ := hq
  obtain ⟨h1, h2, h3, h4, h5⟩ := hs
  unfold State.QueuesSound
  rw [hcq, hbacklog, hfifo]
  exact ⟨h1, h2, h3, h4, fun e he => h.sound (h5 e he)⟩

/-- With an empty backlog only the capacities matter. -/
theorem queuesSound_of_empty {s : State} (hb : s.backlog = []) (hc : s.cq.length ≤ Config.cqCapacity)
    (hf : s.fifo.length ≤ Config.fifoCapacity) : s.QueuesSound :=
  ⟨hc, hf, fun h => absurd hb h, hb ▸ List.nodup_nil, fun e he => by rw [hb] at he; cases he⟩

theorem State.QueuesSound.full {s : State} (hs : s.QueuesSound) (h : s.slotFree = false) :
    s.cq.length = Config.cqCapacity := by
  obtain ⟨hcq, -, hfull, -⟩ := hs
  by_cases hb : s.backlog = []
  · have := mt (s.slotFree_iff).2 (by rw [h]; decide)
    simp only [hb, true_and, Nat.not_lt] at this
    exact Nat.le_antisymm hcq this
  · exact hfull hb

/-- An event whose source has become sound joins the backlog behind a full queue. -/
theorem State.QueuesSound.joins {s t : State} {e : Event} (hs : s.QueuesSound) (hf : s.slotFree = false)
    (hq : t.hostQueues = (s.cq, s.backlog ++ [e], s.fifo)) (hnew : ¬ s.EventSound e) (he : t.EventSound e)
    (hkept : ∀ e' ∈ s.backlog, s.EventSound e' → t.EventSound e') : t.QueuesSound := by
  simp only [State.hostQueues, Prod.mk.injEq] at hq
  obtain ⟨hcq, hbacklog, hfifo⟩ := hq
  have hfull := hs.full hf
  obtain ⟨h1, h2, -, h4, h5⟩ := hs
  unfold State.QueuesSound
  rw [hcq, hbacklog, hfifo]
  refine ⟨h1, h2, fun _ => hfull, List.nodup_append.2 ⟨h4, List.nodup_singleton e, fun a ha b hb => ?_⟩, fun e' he' =>
    ?_⟩
  · rintro rfl
    exact hnew (List.mem_singleton.1 hb ▸ h5 a ha)
  · obtain he' | he' := List.mem_append.1 he'
    · exact hkept e' he' (h5 e' he')
    · rw [List.mem_singleton.1 he']; exact he

/-- A record placed in a free slot. -/
theorem State.QueuesSound.places {s t : State} {c : Completion} (hs : s.QueuesSound) (hf : s.slotFree = true)
    (hq : t.hostQueues = (s.cq ++ [c], s.backlog, s.fifo)) : t.QueuesSound := by
  simp only [State.hostQueues, Prod.mk.injEq] at hq
  obtain ⟨hcq, hbacklog, hfifo⟩ := hq
  obtain ⟨hempty, hroom⟩ := s.slotFree_iff.1 hf
  refine queuesSound_of_empty (hbacklog.trans hempty) ?_ (hfifo ▸ hs.2.1)
  rw [hcq, List.length_append]
  exact hroom

/-! ### The acts -/

theorem setNotice_hostQueues (g : GrantNum) (n : Notice) (s : State) : (setNotice g n s).hostQueues = s.hostQueues :=
  let ⟨_, h⟩ := setNotice_only g n s
  (congrArg State.hostQueues h).trans rfl

theorem leaveQueue_hostQueues (sl : SlotNum) (outcome : Notice) (s : State) :
    (leaveQueue sl outcome s).hostQueues = s.hostQueues :=
  let ⟨_, _, _, _, h⟩ := leaveQueue_only sl outcome s
  (congrArg State.hostQueues h).trans rfl

theorem abandonQueue_hostQueues (sl : SlotNum) (s : State) : (abandonQueue sl s).hostQueues = s.hostQueues :=
  let ⟨_, _, _, h⟩ := abandonQueue_only sl s
  (congrArg State.hostQueues h).trans rfl

theorem offerFrame_hostQueues (sl : SlotNum) (s : State) : (offerFrame sl s).hostQueues = s.hostQueues :=
  let ⟨_, _, h⟩ := offerFrame_only sl s
  (congrArg State.hostQueues h).trans rfl

theorem Grant.isWaiting_withNotice {x : Grant} {n : Notice} (hn : n.finished = true) (h : x.isWaiting = true) :
    (x.withNotice n).isWaiting = true := by
  unfold Grant.isWaiting at h
  split at h
  · next t c hb => simpa [Grant.isWaiting, Grant.withNotice, hb, hn] using And.left (by simpa using h)
  · cases h
  · cases h

theorem setNotice_finished_eventsKept (g : GrantNum) {n : Notice} (hn : n.finished = true) (s : State) :
    EventsKept s (setNotice g n s) where
  grant k hk := by
    rw [setNotice_grant]
    split
    · exact Grant.isWaiting_withNotice hn hk
    · exact hk
  waits k := congrArg Slot.waits (setNotice_slot g n s k)
  hold h := (congrArg (fun c => c.1.1) (setNotice_core g n s)).trans h

/-- The count of a head's ticks: its notice state is open, so it does not wait in the backlog. -/
theorem setNotice_open_eventsKept {g : GrantNum} (n : Notice) {s : State} (hg : (s.grant g).isWaiting = false) :
    EventsKept s (setNotice g n s) where
  grant k hk := by
    rw [setNotice_grant]
    split
    · next h => rw [← h, hg] at hk; cases hk
    · exact hk
  waits k := congrArg Slot.waits (setNotice_slot g n s k)
  hold h := (congrArg (fun c => c.1.1) (setNotice_core g n s)).trans h

theorem isWaiting_of_headNotice {s : State} {sl : SlotNum} {g : GrantNum} {rest : List GrantNum} {n : Notice}
    (hq : (s.slot sl).queue = g :: rest) (hn : s.headNotice sl = some n) (ho : n.isOpen = true) :
    (s.grant g).isWaiting = false := by
  unfold State.headNotice at hn
  rw [hq] at hn
  simp only at hn
  split at hn
  · next t c hb =>
    cases hn
    simp only [Notice.isOpen, Bool.not_eq_true'] at ho
    simp [Grant.isWaiting, hb, ho]
  · cases hn
  · cases hn

/-- An act on the station slots only, that leaves the records' waiting events. -/
theorem eventsKept_of_slots {s t : State} (hg : t.grants = s.grants) (hh : t.hold = s.hold)
    (hs : ∀ k, (t.slot k).waits = (s.slot k).waits) : EventsKept s t where
  grant k hk := by
    have : t.grant k = s.grant k := by unfold State.grant; rw [hg]
    rw [this]; exact hk
  waits := hs
  hold h := hh.trans h

theorem withdrawFrame_eventsKept (sl : SlotNum) (s : State) : EventsKept s (withdrawFrame sl s) := by
  have hrecord := withdrawFrame_record sl s
  obtain ⟨_, _, _, h⟩ := withdrawFrame_only sl s
  rw [h] at hrecord ⊢
  exact eventsKept_of_slots rfl rfl fun k => waits_of_record (hrecord k)

theorem setQueue_eventsKept (sl : SlotNum) (q : List GrantNum) (s : State) :
    EventsKept s (s.setSlot sl { s.slot sl with queue := q }) :=
  eventsKept_of_slots rfl rfl fun k => waits_of_record (setSlot_record (x := { s.slot sl with queue := q }) rfl k)

theorem leaveQueue_eventsKept (sl : SlotNum) {outcome : Notice} (ho : outcome.finished = true) (s : State) :
    EventsKept s (leaveQueue sl outcome s) := by
  unfold leaveQueue
  split
  · exact .refl s
  · exact ((setNotice_finished_eventsKept _ ho s).trans (withdrawFrame_eventsKept sl _)).trans (setQueue_eventsKept ..)

theorem foldl_eventsKept {α : Type} {f : State → α → State} (hf : ∀ s a, EventsKept s (f s a)) (l : List α) (s : State)
    :
    EventsKept s (l.foldl f s) := by
  induction l generalizing s with
  | nil => exact .refl s
  | cons a l ih => exact (hf s a).trans (ih _)

theorem offerFrame_eventsKept (sl : SlotNum) (s : State) : EventsKept s (offerFrame sl s) := by
  obtain h | ⟨f, h⟩ := offerFrame_cases sl s
  · rw [h]; exact .refl s
  · rw [h]
    exact eventsKept_of_slots rfl rfl fun k =>
      waits_of_record (setSlot_record (x := { s.slot sl with frame := .offered f }) rfl k)

theorem txTake_eventsKept (s : State) : EventsKept s (txTake s) := by
  obtain h | ⟨-, -, ⟨-, h⟩ | ⟨sl, rest, f, -, -, -, h⟩⟩ := txTake_cases s
  · rw [h]; exact .refl s
  · rw [h]; exact eventsKept_of_slots rfl rfl fun _ => rfl
  · rw [h]
    exact eventsKept_of_slots rfl rfl fun k =>
      waits_of_record (setSlot_record (x := { s.slot sl with frame := .sending }) rfl k)

theorem closeGrant_eventsKept (cause : Cause) (g : GrantNum) (s : State) : EventsKept s (closeGrant cause g s) where
  grant k hk := by
    rw [closeGrant_grant]
    split
    · rw [Grant.closed_not_live]
      · exact hk
      · unfold Grant.isWaiting at hk
        split at hk
        · next hb => rw [hb]; rfl
        · cases hk
        · cases hk
    · exact hk
  waits k := waits_of_record (closeGrant_record cause g s k)
  hold h := (congrArg (fun c => c.1.1) (closeGrant_core cause g s)).trans h

theorem countDownAll_eventsKept (s : State) : EventsKept s (countDownAll s) where
  grant k hk := by
    rw [countDownAll_grant]
    unfold Grant.isWaiting at hk ⊢
    unfold Grant.countDown
    split at hk
    · next hb => simpa [hb] using hk
    · cases hk
    · cases hk
  waits _ := rfl
  hold := id

theorem modifyRecord_eventsKept {f : Station → Station} (hf : ∀ r, (f r).restartWaiting = r.restartWaiting)
    (sl : SlotNum)
    (s : State) : EventsKept s (s.modifyRecord sl f) :=
  eventsKept_of_slots rfl rfl fun k => by
    rw [State.slot_modifyRecord]
    split
    · next h =>
      subst h
      unfold Slot.waits
      simp only [Option.map_map]
      exact congrFun (congrArg Option.map (funext hf)) _
    · rfl

/-- A LIVE entry's record is replaced: it does not wait in the backlog. -/
theorem setBody_eventsKept {s : State} {g : GrantNum} {t : Terms} (hb : (s.grant g).body = .live t) (b : Body) :
    EventsKept s (s.setBody g b) where
  grant k hk := by
    rw [State.grant_setBody]
    split
    · next h =>
      rw [← h, Grant.isWaiting, hb] at hk
      cases hk
    · exact hk
  waits _ := rfl
  hold := id

theorem inFlight_eventsKept (g : GrantNum) (n : Nat) (s : State) :
    EventsKept s (s.setGrant g { s.grant g with inFlight := n }) where
  grant k hk := by
    rw [State.grant_setGrant]
    split
    · next h => rw [← h] at hk; exact hk
    · exact hk
  waits _ := rfl
  hold := id

/-- A ready grant found by a test retires, or joins the backlog, of which it is no source yet (R35, R167). -/
theorem testReady_queuesSound {g : GrantNum} {s : State} (hs : s.QueuesSound) : (testReady g s).QueuesSound := by
  cases hr : (s.grant g).isReady with
  | false => rw [testReady_not_ready hr]; exact hs
  | true =>
    obtain ⟨t, c, hb, -, hn, hw⟩ := Grant.isReady_closing hr
    cases hf : s.slotFree with
    | true =>
      rw [testReady_retires hr hf, retire_closing hb]
      obtain ⟨_, _, _, _, h⟩ := freeGrant_only g t.holder s
      rw [h]
      exact hs.places hf rfl
    | false =>
      rw [testReady_waits hr hf]
      have hgrant := setRetireWait_grant g s
      have hslot := setRetireWait_slot g s
      obtain ⟨_, h⟩ := setRetireWait_only g s
      rw [h] at hgrant hslot ⊢
      have hkept : EventsKept s { s with grants := _ } := ⟨fun k hk => by
        rw [hgrant]
        split
        · next e => subst e; simp [Grant.isWaiting, hb, hw] at hk
        · exact hk, fun k => congrArg Slot.waits (hslot k), id⟩
      refine hs.joins hf rfl ?_ ?_ fun e _ he => hkept.sound he
      · rw [eventSound_grant]
        simp [Grant.isWaiting, hb, hw]
      · rw [eventSound_grant]
        refine (congrArg (· = true) (congrArg Grant.isWaiting (hgrant g))).mpr ?_
        rw [if_pos rfl]
        simp [Grant.isWaiting, Grant.waiting, hb, hn]

/-- A record created in a VACANT slot makes no source of the backlog's entries unsound. -/
theorem createStation_sound {sl : SlotNum} {r : Station} {s : State} (hv : (s.slot sl).record = none) {e : Event}
    (he : s.EventSound e) : (createStation sl r s).EventSound e := by
  have hslot : ∀ k, (createStation sl r s).slot k = if sl = k then { s.slot sl with record := some r } else s.slot k :=
    fun k => State.slot_setSlot s sl k _
  cases e with
  | grant g => exact he
  | holdReached => exact he
  | admitted k =>
    obtain ⟨x, hx⟩ := he
    refine ⟨x, ?_⟩
    rw [hslot, if_neg (by rintro rfl; rw [hv] at hx; cases hx)]
    exact hx
  | restarted k =>
    obtain ⟨x, w, hx, hw⟩ := he
    refine ⟨x, w, ?_, hw⟩
    rw [hslot, if_neg (by rintro rfl; rw [hv] at hx; cases hx)]
    exact hx

theorem createStation_queuesSound {sl : SlotNum} {r : Station} {s : State} (hv : (s.slot sl).record = none)
    (hs : s.QueuesSound) : (createStation sl r s).QueuesSound := by
  obtain ⟨h1, h2, h3, h4, h5⟩ := hs
  exact ⟨h1, h2, h3, h4, fun e he => createStation_sound hv (h5 e he)⟩

/-- STATION_ADMITTED for a record just created, for which none waits yet (R50). -/
theorem admits_queuesSound {sl : SlotNum} {r : Station} {s : State} (hv : (s.slot sl).record = none)
    (hs : s.QueuesSound) : (handAdmitted sl r.number (createStation sl r s)).QueuesSound := by
  cases hf : s.slotFree with
  | true =>
    rw [handAdmitted_places (s := createStation sl r s) hf]
    exact hs.places hf rfl
  | false =>
    have hjoin : handAdmitted sl r.number (createStation sl r s) =
        joinBacklog (.admitted sl)
          ((createStation sl r s).modifyRecord sl (fun r => { r with admittedWaiting := true })) :=
      if_neg (by rw [show (createStation sl r s).slotFree = false from hf]; decide)
    have hkept := modifyRecord_eventsKept (f := fun r => { r with admittedWaiting := true }) (by exact fun _ => rfl) sl
      (createStation sl r s)
    rw [hjoin]
    refine hs.joins (e := .admitted sl) hf rfl ?_ ?_ fun e _ he => hkept.sound (createStation_sound hv he)
    · rintro ⟨x, hx⟩
      rw [hv] at hx; cases hx
    · exact hkept.sound (e := .admitted sl) ⟨r, by simp [createStation]⟩

/-- STATION_RESTARTED is placed, joins the backlog, or is merged into the one that waits (R55). -/
theorem restarts_queuesSound {sl : SlotNum} {x y : Station} {epoch : BitVec 16} {swept : Nat} {s : State}
    (hr : (s.slot sl).record = some y) (hw : y.restartWaiting = x.restartWaiting) (hs : s.QueuesSound) :
    (handRestarted sl x epoch swept s).QueuesSound := by
  have hset : ∀ (w : RestartWait) (e : Event), s.EventSound e →
      (s.modifyRecord sl (fun x => { x with restartWaiting := some w })).EventSound e := fun w e he => by
    cases e with
    | grant g => exact he
    | holdReached => exact he
    | admitted k =>
      obtain ⟨z, hz⟩ := he
      simp only [State.EventSound, State.slot_modifyRecord]
      split
      · next h => subst h; exact ⟨_, by rw [hz]; rfl⟩
      · exact ⟨z, hz⟩
    | restarted k =>
      obtain ⟨z, v, hz, hv⟩ := he
      simp only [State.EventSound, State.slot_modifyRecord]
      split
      · next h => subst h; exact ⟨_, w, by rw [hz]; rfl, rfl⟩
      · exact ⟨z, v, hz, hv⟩
  unfold handRestarted
  split
  · next w hwait =>
    obtain ⟨h1, h2, h3, h4, h5⟩ := hs
    exact ⟨h1, h2, h3, h4, fun e he => hset _ e (h5 e he)⟩
  · next hnone =>
    split
    · next hf => exact hs.places hf rfl
    · next hf =>
      refine hs.joins (e := .restarted sl) (Bool.eq_false_iff.2 hf) rfl ?_ ?_ fun e _ he => hset _ e he
      · rintro ⟨z, w, hz, hzw⟩
        rw [hr] at hz; cases hz
        rw [hw, hnone] at hzw; cases hzw
      · change ∃ r w, ((s.modifyRecord sl _).slot sl).record = some r ∧ r.restartWaiting = some w
        rw [State.slot_modifyRecord_self, hr]
        exact ⟨_, _, rfl, rfl⟩

/-- HOLD_REACHED is handed over at the end of a drain, for which none waits (R176, R177). -/
theorem drainTest_queuesSound {s : State} (hs : s.QueuesSound) : (drainTest s).QueuesSound := by
  by_cases hd : s.hold = .draining ∧ s.allIdle = true
  · rw [drainTest_ends hd.1 hd.2]
    have hfree : ({ s with hold := .held } : State).slotFree = s.slotFree := rfl
    unfold handHoldReached
    rw [hfree]
    split
    · next hf => exact hs.places hf rfl
    · next hf =>
      refine hs.joins (e := .holdReached) (Bool.eq_false_iff.2 hf) rfl ?_ rfl fun e _ he => ?_
      · exact fun h => HoldState.noConfusion (hd.1.symm.trans h)
      · cases e with
        | holdReached => rfl
        | grant | admitted | restarted => exact he
  · rw [drainTest_stays (by simpa only [not_and_or, Bool.not_eq_true] using hd)]
    exact hs

/-- A record whose pending mark changes says the same of its waiting events. -/
theorem Slot.waits_unmarked (x : Slot) (p : CtxNum → Bool) : (x.unmarked p).waits = x.waits := by
  unfold Slot.waits Slot.unmarked
  rw [Option.map_map]
  rfl

theorem linkLeavesUp_queuesSound {next : LinkState} {s : State} (hs : s.QueuesSound) :
    (linkLeavesUp next s).QueuesSound := by
  have hleft : ({ s with link := next } : State).withLinkLeft.QueuesSound := by
    refine hs.of_kept (eventsKept_of_slots rfl rfl fun k => ?_) rfl
    rw [State.withLinkLeft_slot]
    exact Slot.waits_unmarked (s.slot k) _
  rw [linkLeavesUp_eq]
  simp only []
  split
  · rw [← drainTest_eq_withDrainTest]
    exact drainTest_queuesSound hleft
  · exact hleft

/-- With a sound backlog there is no free slot for its head, which waits for one (R169). -/
theorem placeBacklogHead_waits {s : State} (hs : s.QueuesSound) : placeBacklogHead s = s := by
  unfold placeBacklogHead
  split
  · rfl
  · next e rest hb =>
    rw [if_neg]
    rw [hs.2.2.1 (by rw [hb]; simp)]
    exact Nat.lt_irrefl _

theorem retire_core (g : GrantNum) (s : State) : (retire g s).core = s.core :=
  let ⟨_, _, _, _, _, h⟩ := retire_only g s
  (congrArg State.core h).trans rfl

theorem changeHeld_waits (f : Nat → Nat) (h : Holder) (s : State) (k : SlotNum) :
    ((changeHeld f h s).slot k).waits = (s.slot k).waits := by
  unfold changeHeld
  split
  · rfl
  · split
    · exact (modifyRecord_eventsKept (f := fun r => { r with held := f r.held }) (by exact fun _ => rfl) _ s).waits k
    · rfl

/-- Retirement makes no other source of the backlog's entries unsound. -/
theorem retire_sound {g : GrantNum} {s : State} {t : Terms} {c : Closing} (hb : (s.grant g).body = .closing t c)
    {e : Event} (hne : e ≠ .grant g) (he : s.EventSound e) : (retire g s).EventSound e := by
  have hwaits : ∀ k, ((retire g s).slot k).waits = (s.slot k).waits := fun k => by
    rw [retire_closing hb]
    exact changeHeld_waits ..
  cases e with
  | grant k =>
    rw [eventSound_grant] at he ⊢
    rw [retire_grant hb, if_neg fun h => hne (by rw [h])]
    exact he
  | admitted k => exact (eventSound_admitted _ k).2 (hwaits k ▸ (eventSound_admitted s k).1 he)
  | restarted k => exact (eventSound_restarted _ k).2 (hwaits k ▸ (eventSound_restarted s k).1 he)
  | holdReached =>
    have hhold : (retire g s).hold = s.hold := congrArg (fun c => c.1.1) (retire_core g s)
    exact hhold.trans he

/-- A backlog entry with a sound source places its record, and makes no other source unsound (R169). -/
theorem placeEvent_sound {e : Event} {s : State} (he : s.EventSound e) :
    (∃ c, (placeEvent e s).hostQueues = (s.cq ++ [c], s.backlog, s.fifo)) ∧
      ∀ e', e' ≠ e → s.EventSound e' → (placeEvent e s).EventSound e' := by
  cases e with
  | grant g =>
    obtain ⟨t, c, hb, -⟩ := he
    refine ⟨?_, fun e' hne he' => retire_sound hb hne he'⟩
    rw [placeEvent, retire_closing hb]
    obtain ⟨_, _, _, _, h⟩ := freeGrant_only g t.holder s
    rw [h]
    exact ⟨_, rfl⟩
  | admitted sl =>
    obtain ⟨r, hr⟩ := he
    simp only [placeEvent, hr]
    exact ⟨⟨_, rfl⟩, fun e' _ he' =>
      (modifyRecord_eventsKept (f := fun r => { r with admittedWaiting := false }) (by exact fun _ => rfl) sl s).sound
        he'⟩
  | restarted sl =>
    obtain ⟨r, w, hr, hw⟩ := he
    simp only [placeEvent, hr, hw]
    refine ⟨⟨_, rfl⟩, fun e' hne he' => ?_⟩
    cases e' with
    | grant g => exact he'
    | holdReached => exact he'
    | admitted k =>
      obtain ⟨z, hz⟩ := he'
      change ∃ r, ((s.modifyRecord sl _).slot k).record = some r
      rw [State.slot_modifyRecord]
      split
      · next h => subst h; exact ⟨_, by rw [hz]; rfl⟩
      · exact ⟨z, hz⟩
    | restarted k =>
      obtain ⟨z, v, hz, hv⟩ := he'
      change ∃ r w, ((s.modifyRecord sl _).slot k).record = some r ∧ _
      rw [State.slot_modifyRecord, if_neg fun h => hne (by rw [h])]
      exact ⟨z, v, hz, hv⟩
  | holdReached => exact ⟨⟨_, rfl⟩, fun e' _ he' => by cases e' <;> exact he'⟩

/-- The slot that a write to CQ_ACK frees goes to the head of the backlog (R166, R169). -/
theorem place_queuesSound {s : State} {r : Completion} {rest : List Completion} (hq : s.cq = r :: rest)
    (hb : s.backlog ≠ []) (hs : s.QueuesSound) : (placeBacklogHead { s with cq := rest }).QueuesSound := by
  obtain ⟨-, hfifo, hfull, hnodup, hsound⟩ := hs
  obtain ⟨e, events, he⟩ := List.exists_cons_of_ne_nil hb
  have hlen : rest.length + 1 = Config.cqCapacity := by
    rw [← hfull hb, hq, List.length_cons]
  rw [he] at hnodup hsound
  obtain ⟨hnew, hnodup⟩ := List.nodup_cons.1 hnodup
  have hplaced : placeBacklogHead { s with cq := rest } = placeEvent e { s with cq := rest, backlog := events } := by
    simp only [placeBacklogHead, he]
    rw [if_pos (by omega)]
  have hsame : ∀ e', s.EventSound e' → ({ s with cq := rest, backlog := events } : State).EventSound e' :=
    fun e' h => by cases e' <;> exact h
  obtain ⟨⟨c, hqueues⟩, hothers⟩ := placeEvent_sound (hsame e (hsound e List.mem_cons_self))
  rw [hplaced]
  simp only [State.hostQueues, Prod.mk.injEq] at hqueues
  obtain ⟨hcq, hbacklog, hff⟩ := hqueues
  have hlen' : (rest ++ [c]).length = Config.cqCapacity := by rw [List.length_append]; exact hlen
  unfold State.QueuesSound
  rw [hcq, hbacklog, hff]
  refine ⟨Nat.le_of_eq hlen', hfifo, fun _ => hlen', hnodup, fun e' he' => hothers e' ?_ ?_⟩
  · rintro rfl; exact hnew he'
  · exact hsame e' (hsound e' (List.mem_cons_of_mem _ he'))

theorem State.QueuesSound.of_same {s t : State} (hs : s.QueuesSound) (hg : t.grants = s.grants) (hl : t.slots = s.slots)
    (hh : t.hold = s.hold) (hq : t.hostQueues = s.hostQueues) : t.QueuesSound :=
  hs.of_kept (eventsKept_of_slots hg hh fun k => by unfold State.slot; rw [hl]) hq

/-- Every act keeps the queues sound. -/
theorem Act.queuesSound {e : Effect} {s t : State} (h : Act e s t) (hs : s.QueuesSound) : t.QueuesSound := by
  have hempty : ∀ {u : State}, s.backlog = [] → u.hostQueues = s.hostQueues → u.QueuesSound := fun {u} hb hq => by
    simp only [State.hostQueues, Prod.mk.injEq] at hq
    obtain ⟨hcq, hbacklog, hfifo⟩ := hq
    exact queuesSound_of_empty (hbacklog.trans hb) (hcq ▸ hs.1) (hfifo ▸ hs.2.1)
  cases h with
  | registers | phaseRestarts | receptionEnds | trains | enables | disables | trainingRestarts | entersUp | replies
  | replySent | contextReplySent | detachedSent | port | changesContext | binds | queuesReply | setsLimits
  | setsTiming => exact hs.of_same rfl rfl rfl rfl
  | goesDown => exact linkLeavesUp_queuesSound (.of_same hs rfl rfl rfl rfl)
  | losesSync => exact .of_same (linkLeavesUp_queuesSound (next := .training) hs) rfl rfl rfl rfl
  | transmits => exact hs.of_kept (txTake_eventsKept s) (txTake_hostQueues s)
  | offers => exact hs.of_kept (offerFrame_eventsKept ..) (offerFrame_hostQueues ..)
  | noticeSent _ sl f =>
    refine hs.of_kept (eventsKept_of_slots rfl rfl fun k => ?_) rfl
    exact waits_of_record (setSlot_record (s := s) (x := { s.slot sl with frame := .none }) rfl k)
  | recounts _ sl g rest n tries ticks hq hn ho =>
    exact hs.of_kept (setNotice_open_eventsKept _ (isWaiting_of_headNotice hq hn ho)) (setNotice_hostQueues ..)
  | leavesQueue _ sl outcome ho => exact hs.of_kept (leaveQueue_eventsKept sl ho s) (leaveQueue_hostQueues ..)
  | abandons _ sl r =>
    refine hs.of_kept ?_ ((foldl_view (fun s g => setNotice_hostQueues g .abandoned s) _ _).trans
      (abandonQueue_hostQueues sl s))
    exact ((withdrawFrame_eventsKept sl s).trans (setQueue_eventsKept sl [] _)).trans
      (foldl_eventsKept (fun s g => setNotice_finished_eventsKept g rfl s) _ _)
  | closes => exact hs.of_kept (closeGrant_eventsKept ..) (closeGrant_hostQueues ..)
  | countsDown =>
    exact hs.of_kept
      ((countDownAll_eventsKept s).trans (foldl_eventsKept (fun s g => closeGrant_eventsKept .expired g s) _ _))
      (closeAll_hostQueues .expired _ (countDownAll s))
  | tested => exact testReady_queuesSound hs
  | countsInFlight _ g n => exact hs.of_kept (inFlight_eventsKept g n s) rfl
  | renews _ g t n hb | amends _ f g t hb => exact hs.of_kept (setBody_eventsKept hb _) rfl
  | issues _ _ _ _ _ _ _ _ _ _ hq => exact hempty hq (allocate_hostQueues ..)
  | changesRecord _ sl f hf => exact hs.of_kept (modifyRecord_eventsKept (fun r => (hf r).2.2) sl s) rfl
  | creates _ sl r hv => exact createStation_queuesSound hv hs
  | admits _ sl r hv => exact admits_queuesSound hv hs
  | restarts _ sl x y epoch swept hr hw => exact restarts_queuesSound hr hw hs
  | forgets _ _ _ _ _ hq | holds _ _ hq | resumes _ hq => exact hempty hq rfl
  | idles => exact drainTest_queuesSound (.of_same hs rfl rfl rfl rfl)
  | fifoJoins _ r hlen =>
    obtain ⟨h1, -, h3, h4, h5⟩ := hs
    exact ⟨h1, by rw [List.length_append]; exact hlen, h3, h4, fun e he => by
      have := h5 e he; cases e <;> exact this⟩
  | fifoLeaves _ r rest hq =>
    obtain ⟨h1, h2, h3, h4, h5⟩ := hs
    rw [hq] at h2
    exact ⟨h1, Nat.le_of_succ_le h2, h3, h4, fun e he => by have := h5 e he; cases e <;> exact this⟩
  | reports _ c hf => exact hs.places hf rfl
  | placesBacklog => rw [placeBacklogHead_waits hs]; exact hs
  | drains => exact drainTest_queuesSound hs

theorem queuesSound_kept : Kept State.QueuesSound where
  act h hs := h.queuesSound hs
  pending _ _ hs := hs.of_same rfl rfl rfl rfl
  power low out straps s _ := queuesSound_of_empty rfl (Nat.zero_le _) (Nat.zero_le _)
  reset s _ := queuesSound_of_empty rfl (Nat.zero_le _) (Nat.zero_le _)
  free s r rest hq hb hs := by
    obtain ⟨h1, h2, -⟩ := hs
    rw [hq] at h1
    exact queuesSound_of_empty hb (Nat.le_of_succ_le h1) h2
  place _ _ _ hq hb hs := place_queuesSound hq hb hs
  line s _ op res _ hs := by
    obtain ⟨_, h⟩ := acceptWrite_only op res { s with port := .free }
    rw [h]
    exact .of_same hs rfl rfl rfl rfl

/-- Settles O56: a record is placed only in a free slot, and an event joins the backlog only behind a full queue, with
its source made what the backlog needs it to be. -/
theorem queuesStaySound : Obligations.QueuesStaySound :=
  fun _ _ hs hstep => queuesSound_kept.step hstep hs

end Sys2Proof.Machine
end


section
/-! PROOFS. The station records, their held counts and the notice queues under every step (R21, R45, R46, R109). -/

namespace Sys2Proof.Machine

/-! ### The free list and the window index, on their own -/

theorem TermsMove.partition {s t : State} (h : TermsMove s t) (hs : s.GrantListsPartition) : t.GrantListsPartition := by
  have hlive : ∀ {g : GrantNum} {u v : Terms}, (s.grant g).body = .live u →
      (s.setBody g (.live v)).GrantListsPartition := fun {g u v} hb =>
    .of_isFree (s := s) rfl rfl (fun k => by
      rw [State.grant_setBody]
      split
      · next h => rw [← h, hb]; rfl
      · rfl) hs
  cases h with
  | same h => exact hs.of_same h
  | retires h hb => exact retire_partition hb (hs.of_same h)
  | countsDown =>
    refine .of_same (closeAll_sameTerms ..) (.of_isFree (s := s) rfl rfl (fun k => ?_) hs)
    rw [countDownAll_grant, Body.isFree_eq, Body.isFree_eq, Grant.countDown_terms]
    split
    · next hb => rw [hb]; rfl
    · rfl
  | renews hb | amends hb => exact hlive hb
  | issues _ _ _ hl => exact allocate_partition hl hs
  | setsLimits => exact hs

theorem partition_kept : Kept State.GrantListsPartition where
  act h hs := h.termsMove.partition hs
  pending _ _ hs := hs
  power low out straps s _ := (powerOn_listsSound low out straps s).1
  reset s hs := (listsSound_all_free (engineReset_body s) (rebuiltFreeList_perm hs) rfl).1
  free _ _ _ _ _ hs := hs
  place s _ rest _ _ hs := (placeBacklogHead_termsMove { s with cq := rest }).partition hs
  line s _ op res _ hs := .of_same (acceptWrite_sameTerms op res { s with port := .free }) hs

/-! ### Counting -/

/-- Two counts that differ in one entry. -/
theorem countP_change {α : Type} {l : List α} (hn : l.Nodup) {a : α} (ha : a ∈ l) {p q : α → Bool}
    (h : ∀ b, b ≠ a → p b = q b) : l.countP p + (q a).toNat = l.countP q + (p a).toNat := by
  induction l with
  | nil => cases ha
  | cons b l ih =>
    obtain ⟨hb, hn⟩ := List.nodup_cons.1 hn
    have hcons : ∀ r : α → Bool, (b :: l).countP r = l.countP r + (r b).toNat := fun r => by
      rw [List.countP_cons]
      cases r b <;> rfl
    rw [hcons, hcons]
    obtain rfl | ha := List.mem_cons.1 ha
    · rw [List.countP_congr fun c hc => by rw [h c fun e => hb (e ▸ hc)]]
      omega
    · have hba : b ≠ a := fun e => hb (e ▸ ha)
      have := ih hn ha
      rw [h b hba]
      omega

/-- The number of LIVE and CLOSING grants whose holder is a station (R21). -/
def State.holderCount (s : State) (n : StationNum) : Nat :=
  (List.finRange 512).countP (fun g => (s.grant g).body.holder? == some (.station n))

/-- The held count of a station's record, 0 without one (R21, R46). -/
def State.heldOf (s : State) (n : StationNum) : Nat :=
  (((s.findSlot n).bind (fun sl => (s.slot sl).record)).map (fun r => r.held)).getD 0

theorem heldCounted_iff (s : State) : s.HeldCounted ↔ ∀ n, s.holderCount n = s.heldOf n := Iff.rfl

/-- A count of holders after one entry's change. -/
theorem holderCount_change {s t : State} {g : GrantNum} (h : ∀ k, k ≠ g → (t.grant k).body = (s.grant k).body)
    (n : StationNum) :
    t.holderCount n + ((s.grant g).body.holder? == some (.station n)).toNat =
      s.holderCount n + ((t.grant g).body.holder? == some (.station n)).toNat :=
  countP_change (p := fun k => (t.grant k).body.holder? == some (.station n))
    (q := fun k => (s.grant k).body.holder? == some (.station n)) (List.nodup_finRange 512) (List.mem_finRange g)
    fun k hk => by rw [h k hk]

/-! ### Finding a record (R46) -/

/-- The number a slot's record names. -/
def Slot.number? (x : Slot) : Option StationNum := x.record.map Station.number

/-- What a slot's record says of its station: its number and its held count. -/
def Slot.tag (x : Slot) : Option (StationNum × Nat) := x.record.map (fun r => (r.number, r.held))

theorem Slot.names_eq (x : Slot) (n : StationNum) : x.names n = (x.number? == some n) := by
  unfold Slot.names Slot.number?
  split
  · next hr => rw [hr]; rfl
  · next hr => rw [hr]; rfl

theorem Slot.number_of_tag {x y : Slot} (h : x.tag = y.tag) : x.number? = y.number? := by
  have hnumber : ∀ z : Slot, z.number? = z.tag.map Prod.fst := fun z => by
    unfold Slot.number? Slot.tag
    rw [Option.map_map]
    rfl
  rw [hnumber, hnumber, h]

theorem tag_of_record {x y : Slot} (h : x.record = y.record) : x.tag = y.tag := by
  unfold Slot.tag
  rw [h]

/-- The slots are searched by the numbers they name. -/
theorem findSlot_congr {s t : State} (h : ∀ sl, (t.slot sl).number? = (s.slot sl).number?) (n : StationNum) :
    t.findSlot n = s.findSlot n := by
  unfold State.findSlot
  refine congrArg (List.find? · _) (funext fun sl => ?_)
  rw [Slot.names_eq, Slot.names_eq, h]

/-- No slot names a station for which none is found. -/
theorem State.findSlot_none {s : State} {n : StationNum} (h : s.findSlot n = none) (sl : SlotNum) :
    (s.slot sl).number? ≠ some n := fun hn => by
  have := List.find?_eq_none.1 h sl (List.mem_finRange sl)
  rw [Slot.names_eq, hn] at this
  exact this (beq_self_eq_true _)

theorem State.findSlot_number {s : State} {n : StationNum} {sl : SlotNum} (h : s.findSlot n = some sl) :
    (s.slot sl).number? = some n := by
  obtain ⟨r, hr, hn⟩ := State.findSlot_some h
  rw [Slot.number?, hr, Option.map_some, hn]

/-- A slot that names a station is found if no other names it. -/
theorem State.findSlot_of_number {s : State} {n : StationNum} {sl : SlotNum} (h : (s.slot sl).number? = some n)
    (hd : ∀ k, (s.slot k).number? = some n → k = sl) : s.findSlot n = some sl := by
  cases hf : s.findSlot n with
  | none => exact absurd h (s.findSlot_none hf sl)
  | some k => rw [hd k (s.findSlot_number hf)]

theorem stationsDistinct_iff (s : State) :
    s.StationsDistinct ↔ ∀ sl tl n, (s.slot sl).number? = some n → (s.slot tl).number? = some n → sl = tl := by
  unfold State.StationsDistinct Slot.number?
  constructor
  · intro h sl tl n hs ht
    obtain ⟨x, hx, rfl⟩ := Option.map_eq_some_iff.1 hs
    obtain ⟨y, hy, hn⟩ := Option.map_eq_some_iff.1 ht
    exact h sl tl x y hx hy hn.symm
  · intro h sl tl x y hx hy hn
    exact h sl tl x.number (by rw [hx]; rfl) (by rw [hy, hn]; rfl)

/-- The held count found is that of the slot's tag. -/
theorem State.heldOf_eq (s : State) (n : StationNum) :
    s.heldOf n = (((s.findSlot n).bind (fun sl => (s.slot sl).tag)).map Prod.snd).getD 0 := by
  unfold State.heldOf Slot.tag
  cases s.findSlot n with
  | none => rfl
  | some sl => simp only [Option.bind_some, Option.map_map]; rfl

theorem heldOf_congr {s t : State} (h : ∀ sl, (t.slot sl).tag = (s.slot sl).tag) (n : StationNum) :
    t.heldOf n = s.heldOf n := by
  rw [State.heldOf_eq, State.heldOf_eq, findSlot_congr (fun sl => Slot.number_of_tag (h sl))]
  simp only [h]

/-- The held counts after a change of one of them (R21). -/
theorem changeHeld_heldOf {f : Nat → Nat} {s : State} {m : StationNum} {sl : SlotNum} (hf : s.findSlot m = some sl)
    (n : StationNum) : (changeHeld f (.station m) s).heldOf n = if m = n then f (s.heldOf n) else s.heldOf n := by
  have hnumber : ∀ k, ((changeHeld f (.station m) s).slot k).number? = (s.slot k).number? := fun k => by
    simp only [changeHeld, hf, State.slot_modifyRecord]
    split
    · next h => subst h; simp only [Slot.number?, Option.map_map]; rfl
    · rfl
  have hslot : ∀ k, ((changeHeld f (.station m) s).slot k).tag =
      if sl = k then (s.slot k).tag.map (fun x => (x.1, f x.2)) else (s.slot k).tag := fun k => by
    simp only [changeHeld, hf, State.slot_modifyRecord]
    split
    · next h => subst h; simp only [Slot.tag, Option.map_map]; rfl
    · rfl
  rw [State.heldOf_eq, State.heldOf_eq, findSlot_congr hnumber]
  simp only [hslot]
  by_cases hmn : m = n
  · subst hmn
    obtain ⟨r, hr, -⟩ := State.findSlot_some hf
    simp [hf, Slot.tag, hr]
  · rw [if_neg hmn]
    cases hn : s.findSlot n with
    | none => rfl
    | some k =>
      have hk : sl ≠ k := by
        rintro rfl
        have := (s.findSlot_number hf).symm.trans (s.findSlot_number hn)
        exact hmn (Option.some.inj this)
      simp [hk]

/-! ### The open notices -/

/-- The grant is CLOSING with an open notice to its holder, station `n` (R109). -/
def Grant.openFor (x : Grant) (n : StationNum) : Prop :=
  ∃ t c, x.body = .closing t c ∧ t.holder = .station n ∧ c.notice.isOpen = true

/-- The grant may stand behind the head of a queue: its notice, if it has one, is QUEUED (R109). -/
def Grant.tailOk (x : Grant) : Prop := ∀ t c, x.body = .closing t c → c.notice = .queued

/-- A slot's notice queue is as R109 says of it, for the station it names, if any. -/
structure QueueSound (grant : GrantNum → Grant) (number : Option StationNum) (queue : List GrantNum) (frame : HeadFrame)
  :
    Prop where
  nodup : queue.Nodup
  frame : queue = [] → frame = .none
  mem : ∀ g, g ∈ queue ↔ ∃ n, number = some n ∧ (grant g).openFor n
  tail : ∀ g ∈ queue.tail, (grant g).tailOk

theorem noticeQueuesSound_iff (s : State) :
    s.NoticeQueuesSound ↔
      ∀ sl, QueueSound s.grant (s.slot sl).number? (s.slot sl).queue (s.slot sl).frame := by
  have hopen : ∀ (g : GrantNum) (sl : SlotNum),
      (∃ r t c, (s.slot sl).record = some r ∧ (s.grant g).body = .closing t c ∧ t.holder = .station r.number ∧
        c.notice.isOpen = true) ↔ ∃ n, (s.slot sl).number? = some n ∧ (s.grant g).openFor n := fun g sl => by
    unfold Slot.number? Grant.openFor
    constructor
    · rintro ⟨r, t, c, hr, h⟩
      exact ⟨r.number, by rw [hr]; rfl, t, c, h⟩
    · rintro ⟨n, hn, t, c, h⟩
      obtain ⟨r, hr, rfl⟩ := Option.map_eq_some_iff.1 hn
      exact ⟨r, t, c, hr, h⟩
  unfold State.NoticeQueuesSound
  simp only [hopen]
  exact forall_congr' fun sl => ⟨fun ⟨h1, h2, h3, h4⟩ => ⟨h1, h2, h3, h4⟩, fun ⟨h1, h2, h3, h4⟩ => ⟨h1, h2, h3, h4⟩⟩

theorem QueueSound.congr {grant grant' : GrantNum → Grant} {number : Option StationNum} {queue : List GrantNum}
    {frame frame' : HeadFrame} (h : QueueSound grant number queue frame)
    (hopen : ∀ g n, (grant' g).openFor n ↔ (grant g).openFor n) (htail : ∀ g ∈ queue.tail, (grant g).tailOk →
      (grant' g).tailOk)
    (hframe : queue = [] → frame = .none → frame' = .none) : QueueSound grant' number queue frame' where
  nodup := h.nodup
  frame hq := hframe hq (h.frame hq)
  mem g := by simp only [h.mem, hopen]
  tail g hg := htail g hg (h.tail g hg)

/-! ### What leaves the stations' counts and queues -/

/-- The stations' records, their counts and the notice queues are sound. -/
structure State.StationsSound (s : State) : Prop where
  distinct : s.StationsDistinct
  held : s.HeldCounted
  queues : s.NoticeQueuesSound

/-- The holders, the open notices, the station records' numbers and counts and the queues are the same. -/
structure StationsSame (s t : State) : Prop where
  holder : ∀ g, (t.grant g).body.holder? = (s.grant g).body.holder?
  openFor : ∀ g n, (t.grant g).openFor n ↔ (s.grant g).openFor n
  tailOk : ∀ g n, (s.grant g).openFor n → (s.grant g).tailOk → (t.grant g).tailOk
  tag : ∀ sl, (t.slot sl).tag = (s.slot sl).tag
  queue : ∀ sl, (t.slot sl).queue = (s.slot sl).queue
  frame : ∀ sl, (s.slot sl).queue = [] → (s.slot sl).frame = .none → (t.slot sl).frame = .none

theorem State.StationsDistinct.of_tag {s t : State} (hs : s.StationsDistinct)
    (h : ∀ sl, (t.slot sl).number? = (s.slot sl).number?) : t.StationsDistinct := by
  rw [stationsDistinct_iff] at hs ⊢
  simpa only [h] using hs

theorem State.HeldCounted.of_same {s t : State} (hs : s.HeldCounted)
    (hg : ∀ g, (t.grant g).body.holder? = (s.grant g).body.holder?) (h : ∀ sl, (t.slot sl).tag = (s.slot sl).tag) :
    t.HeldCounted := by
  rw [heldCounted_iff] at hs ⊢
  intro n
  rw [heldOf_congr h, ← hs]
  unfold State.holderCount
  simp only [hg]

theorem State.StationsSound.of_same {s t : State} (hs : s.StationsSound) (h : StationsSame s t) : t.StationsSound where
  distinct := hs.distinct.of_tag fun sl => Slot.number_of_tag (h.tag sl)
  held := hs.held.of_same h.holder h.tag
  queues := by
    rw [noticeQueuesSound_iff]
    intro sl
    rw [h.queue, Slot.number_of_tag (h.tag sl)]
    have hq := (noticeQueuesSound_iff s).1 hs.queues sl
    refine hq.congr h.openFor (fun g hg => ?_) (h.frame sl)
    obtain ⟨n, -, hn⟩ := (hq.mem g).1 (List.mem_of_mem_tail hg)
    exact h.tailOk g n hn

theorem StationsSame.trans {s t u : State} (h : StationsSame s t) (h' : StationsSame t u) : StationsSame s u where
  holder g := (h'.holder g).trans (h.holder g)
  openFor g n := (h'.openFor g n).trans (h.openFor g n)
  tailOk g n hn hg := h'.tailOk g n ((h.openFor g n).2 hn) (h.tailOk g n hn hg)
  tag sl := (h'.tag sl).trans (h.tag sl)
  queue sl := (h'.queue sl).trans (h.queue sl)
  frame sl hq hf := h'.frame sl ((h.queue sl).trans hq) (h.frame sl hq hf)

/-- The grants' part of `StationsSame`, where each record is the same but for what it does not speak of. -/
theorem stationsSame_of_grants {s t : State} (hs : t.slots = s.slots)
    (hg : ∀ g, (t.grant g).body.holder? = (s.grant g).body.holder? ∧
      (∀ n, (t.grant g).openFor n ↔ (s.grant g).openFor n) ∧ ((s.grant g).tailOk → (t.grant g).tailOk)) :
    StationsSame s t := by
  have hslot : ∀ sl, t.slot sl = s.slot sl := fun sl => by unfold State.slot; rw [hs]
  exact ⟨fun g => (hg g).1, fun g => (hg g).2.1, fun g _ _ => (hg g).2.2, fun sl => by rw [hslot],
    fun sl => by rw [hslot], fun sl _ hf => (hslot sl).symm ▸ hf⟩

/-- The slots' part of `StationsSame`, with the grant table the same. -/
theorem stationsSame_of_slots {s t : State} (hg : t.grants = s.grants) (htag : ∀ sl, (t.slot sl).tag = (s.slot sl).tag)
    (hnotices : ∀ sl, (t.slot sl).queue = (s.slot sl).queue ∧
      ((s.slot sl).queue = [] → (s.slot sl).frame = .none → (t.slot sl).frame = .none)) : StationsSame s t := by
  have hgrant : ∀ g, t.grant g = s.grant g := fun g => by unfold State.grant; rw [hg]
  exact ⟨fun g => by rw [hgrant], fun g n => by rw [hgrant], fun g n _ h => (hgrant g).symm ▸ h, htag,
    fun sl => (hnotices sl).1, fun sl => (hnotices sl).2⟩

theorem stationsSame_of_tables {s t : State} (hg : t.grants = s.grants) (hs : t.slots = s.slots) : StationsSame s t :=
  stationsSame_of_grants hs fun g => by
    have : t.grant g = s.grant g := by unfold State.grant; rw [hg]
    rw [this]
    exact ⟨rfl, fun _ => .rfl, id⟩

theorem StationsSame.refl (s : State) : StationsSame s s := stationsSame_of_tables rfl rfl

/-- A record that is not CLOSING has no notice. -/
theorem Grant.not_openFor {x : Grant} (h : ∀ t c, x.body ≠ .closing t c) (n : StationNum) : ¬ x.openFor n :=
  fun ⟨t, c, hb, _⟩ => h t c hb

theorem Grant.tailOk_of_not_closing {x : Grant} (h : ∀ t c, x.body ≠ .closing t c) : x.tailOk :=
  fun t c hb => absurd hb (h t c)

/-- A LIVE record replaced by a LIVE record of the same holder. -/
theorem setBody_live_stationsSame {s : State} {g : GrantNum} {t u : Terms} (hb : (s.grant g).body = .live t)
    (hh : u.holder = t.holder) : StationsSame s (s.setBody g (.live u)) := by
  refine stationsSame_of_grants rfl fun k => ?_
  rw [State.grant_setBody]
  split
  · next h =>
    subst h
    have hold : ∀ t' c, (s.grant g).body ≠ .closing t' c := fun t' c h => by rw [hb] at h; cases h
    have hnew : ∀ t' c, ({ s.grant g with body := .live u } : Grant).body ≠ .closing t' c := fun t' c h => by cases h
    refine ⟨by rw [hb]; exact congrArg some hh, fun n => ?_, fun _ => Grant.tailOk_of_not_closing hnew⟩
    exact iff_of_false (Grant.not_openFor hnew n) (Grant.not_openFor hold n)
  · exact ⟨rfl, fun _ => .rfl, id⟩

theorem countDownAll_stationsSame (s : State) : StationsSame s (countDownAll s) := by
  refine stationsSame_of_grants rfl fun g => ?_
  rw [countDownAll_grant]
  cases hb : (s.grant g).body with
  | free | closing => simp [Grant.countDown, hb]
  | live t =>
    have hold : ∀ t' c, (s.grant g).body ≠ .closing t' c := fun t' c h => by rw [hb] at h; cases h
    have hnew : ∀ t' c, (s.grant g).countDown.body ≠ .closing t' c := fun t' c h => by simp [Grant.countDown, hb] at h
    refine ⟨by simp only [Grant.countDown, hb]; rfl, fun n => ?_, fun _ => Grant.tailOk_of_not_closing hnew⟩
    exact iff_of_false (Grant.not_openFor hnew n) (Grant.not_openFor hold n)

theorem setRetireWait_stationsSame (g : GrantNum) (s : State) : StationsSame s (setRetireWait g s) := by
  have hslots : (setRetireWait g s).slots = s.slots := by
    obtain ⟨_, h⟩ := setRetireWait_only g s
    rw [h]
  refine stationsSame_of_grants hslots fun k => ?_
  rw [setRetireWait_grant]
  split
  · unfold Grant.waiting
    split
    · next t c hb =>
      refine ⟨by rw [hb]; rfl, fun n => ?_, fun h t' c' hb' => ?_⟩
      · simp only [Grant.openFor, hb, Body.closing.injEq]
        constructor
        · rintro ⟨t', c', ⟨rfl, rfl⟩, h⟩; exact ⟨_, _, ⟨rfl, rfl⟩, h⟩
        · rintro ⟨t', c', ⟨rfl, rfl⟩, h⟩; exact ⟨_, _, ⟨rfl, rfl⟩, h⟩
      · cases hb'; exact h t c hb
    · exact ⟨rfl, fun _ => .rfl, id⟩
    · exact ⟨rfl, fun _ => .rfl, id⟩
  · exact ⟨rfl, fun _ => .rfl, id⟩

theorem inFlight_stationsSame (g : GrantNum) (n : Nat) (s : State) :
    StationsSame s (s.setGrant g { s.grant g with inFlight := n }) := by
  refine stationsSame_of_grants rfl fun k => ?_
  rw [State.grant_setGrant]
  split
  · next h => subst h; exact ⟨rfl, fun _ => .rfl, id⟩
  · exact ⟨rfl, fun _ => .rfl, id⟩

theorem modifyRecord_stationsSame {f : Station → Station} (hf : ∀ r, (f r).number = r.number ∧ (f r).held = r.held)
    (sl : SlotNum) (s : State) : StationsSame s (s.modifyRecord sl f) := by
  refine stationsSame_of_slots rfl (fun k => ?_) fun k => ?_
  · rw [State.slot_modifyRecord]
    split
    · next h =>
      subst h
      unfold Slot.tag
      rw [Option.map_map]
      exact congrFun (congrArg Option.map (funext fun r => Prod.ext (hf r).1 (hf r).2)) _
    · rfl
  · have h := modifyRecord_notices sl f s k
    exact ⟨congrArg Prod.fst h, fun _ hfr => (frame_of_notices h).trans hfr⟩

theorem setFrame_stationsSame {sl : SlotNum} {x : HeadFrame} {s : State}
    (hx : (s.slot sl).queue = [] → (s.slot sl).frame = .none → x = .none) :
    StationsSame s (s.setSlot sl { s.slot sl with frame := x }) := by
  have hslot : ∀ k, (s.setSlot sl { s.slot sl with frame := x }).slot k =
      if sl = k then { s.slot k with frame := x } else s.slot k := fun k => by
    rw [State.slot_setSlot]
    split
    · next h => rw [h]
    · rfl
  refine stationsSame_of_slots rfl (fun k => ?_) fun k => ?_ <;> rw [hslot] <;> split
  · rfl
  · rfl
  · next h => subst h; exact ⟨rfl, hx⟩
  · exact ⟨rfl, fun _ => id⟩

theorem offerFrame_stationsSame (sl : SlotNum) (s : State) : StationsSame s (offerFrame sl s) := by
  cases hq : (s.slot sl).queue with
  | nil => rw [show offerFrame sl s = s by simp [offerFrame, hq]]; exact .refl s
  | cons g rest =>
    obtain h | ⟨f, h⟩ := offerFrame_cases sl s
    · rw [h]; exact .refl s
    · rw [h]
      refine (setFrame_stationsSame (sl := sl) (x := .offered f) fun hnil => ?_).trans (stationsSame_of_tables rfl rfl)
      rw [hq] at hnil; cases hnil

theorem txTake_stationsSame (s : State) : StationsSame s (txTake s) := by
  obtain h | ⟨-, -, ⟨-, h⟩ | ⟨sl, rest, f, -, -, hf, h⟩⟩ := txTake_cases s
  · rw [h]; exact .refl s
  · rw [h]; exact stationsSame_of_tables rfl rfl
  · rw [h]
    refine (setFrame_stationsSame (sl := sl) (x := .sending) fun _ hnone => ?_).trans (stationsSame_of_tables rfl rfl)
    rw [hf] at hnone; cases hnone

theorem drainTest_stationsSame (s : State) : StationsSame s (drainTest s) := by
  obtain ⟨_, _, _, _, h⟩ := drainTest_only s
  rw [h]
  exact stationsSame_of_tables rfl rfl

theorem handAdmitted_stationsSame (sl : SlotNum) (n : StationNum) (s : State) :
    StationsSame s (handAdmitted sl n s) := by
  unfold handAdmitted
  split
  · exact stationsSame_of_tables rfl rfl
  · exact (modifyRecord_stationsSame (f := fun r => { r with admittedWaiting := true }) (by exact fun _ => ⟨rfl, rfl⟩)
      sl
      s).trans (stationsSame_of_tables rfl rfl)

theorem handRestarted_stationsSame (sl : SlotNum) (x : Station) (epoch : BitVec 16) (swept : Nat) (s : State) :
    StationsSame s (handRestarted sl x epoch swept s) := by
  have hset : ∀ w, StationsSame s (s.modifyRecord sl (fun r => { r with restartWaiting := some w })) := fun w =>
    modifyRecord_stationsSame (f := fun r => { r with restartWaiting := some w }) (by exact fun _ => ⟨rfl, rfl⟩) sl s
  unfold handRestarted
  split
  · exact hset _
  · split
    · exact stationsSame_of_tables rfl rfl
    · exact (hset _).trans (stationsSame_of_tables rfl rfl)

theorem linkLeavesUp_stationsSame (next : LinkState) (s : State) : StationsSame s (linkLeavesUp next s) := by
  have hleft : StationsSame s ({ s with link := next } : State).withLinkLeft := by
    refine stationsSame_of_slots rfl (fun k => ?_) fun k => ?_ <;> rw [State.withLinkLeft_slot]
    · simp only [Slot.tag, Slot.unmarked, Option.map_map]
      rfl
    · exact ⟨rfl, fun _ _ => rfl⟩
  rw [linkLeavesUp_eq]
  simp only []
  split
  · rw [← drainTest_eq_withDrainTest]
    exact hleft.trans (drainTest_stationsSame _)
  · exact hleft

end Sys2Proof.Machine
end


section
/-! PROOFS. The acts that change the station counts and the notice queues, and that every step keeps both true (R21,
R22, R32, R45, R110, R117, R120). -/

namespace Sys2Proof.Machine

/-! ### Retirement and allocation (R20, R22) -/

/-- The queues stay sound under the change of one entry that has no open notice before or after. -/
theorem State.NoticeQueuesSound.of_unnoticed {s t : State} {g : GrantNum} (hsound : s.NoticeQueuesSound)
    (hdiff : ∀ k, k ≠ g → t.grant k = s.grant k) (hs : ∀ n, ¬ (s.grant g).openFor n)
    (ht : ∀ n, ¬ (t.grant g).openFor n) (hnotices : ∀ sl, (t.slot sl).notices = (s.slot sl).notices)
    (hnumber : ∀ sl, (t.slot sl).number? = (s.slot sl).number?) : t.NoticeQueuesSound := by
  have hopen : ∀ k n, (t.grant k).openFor n ↔ (s.grant k).openFor n := fun k n => by
    by_cases h : k = g
    · rw [h]; exact iff_of_false (ht n) (hs n)
    · rw [hdiff k h]
  rw [noticeQueuesSound_iff] at hsound ⊢
  intro sl
  have hq := hsound sl
  rw [show (t.slot sl).queue = (s.slot sl).queue from congrArg Prod.fst (hnotices sl),
    frame_of_notices (hnotices sl), hnumber]
  refine hq.congr hopen (fun k hk => ?_) fun _ => id
  obtain ⟨n, -, hn⟩ := (hq.mem k).1 (List.mem_of_mem_tail hk)
  rw [hdiff k (by rintro rfl; exact hs n hn)]
  exact id

/-- A held count's change leaves the numbers of the records. -/
theorem changeHeld_number (f : Nat → Nat) (h : Holder) (s : State) (k : SlotNum) :
    ((changeHeld f h s).slot k).number? = (s.slot k).number? := by
  unfold changeHeld
  split
  · rfl
  · split
    · rw [State.slot_modifyRecord]
      split
      · next h => subst h; simp only [Slot.number?, Option.map_map]; rfl
      · rfl
    · rfl

theorem heldOf_of_slots {s t : State} (h : t.slots = s.slots) (n : StationNum) : t.heldOf n = s.heldOf n :=
  heldOf_congr (fun sl => by unfold State.slot; rw [h]) n

/-- A counted holder is found, if it is a station. -/
theorem State.HeldCounted.findSlot {s : State} (hs : s.HeldCounted) {g : GrantNum} {n : StationNum}
    (hg : (s.grant g).body.holder? = some (.station n)) : ∃ sl, s.findSlot n = some sl := by
  cases hf : s.findSlot n with
  | some sl => exact ⟨sl, rfl⟩
  | none =>
    have hzero : s.heldOf n = 0 := by simp [State.heldOf, hf]
    have hcount := (heldCounted_iff s).1 hs n
    rw [hzero] at hcount
    have := List.countP_eq_zero.1 hcount g (List.mem_finRange g)
    rw [hg] at this
    exact absurd (beq_self_eq_true _) this

/-- The count of one holder's grants changed by one with its held count. -/
theorem heldCounted_of_change {s t u : State} {g : GrantNum} {h : Holder} {f : Nat → Nat} (hs : s.HeldCounted)
    (hbody : ∀ k, k ≠ g → (t.grant k).body = (s.grant k).body)
    (hslots : u.slots = s.slots) (ht : ∀ n, t.heldOf n = (changeHeld f h u).heldOf n)
    (hfind : ∀ m, h = .station m → ∃ sl, s.findSlot m = some sl)
    (hother : ∀ n, h ≠ .station n → ((s.grant g).body.holder? == some (.station n)) =
      ((t.grant g).body.holder? == some (.station n)))
    (hthis : ∀ n, h = .station n → t.holderCount n = f (s.holderCount n)) : t.HeldCounted := by
  rw [heldCounted_iff] at hs ⊢
  intro n
  rw [ht]
  have hsame : h ≠ .station n → t.holderCount n = s.holderCount n := fun hne => by
    have := holderCount_change hbody n
    rw [hother n hne] at this
    omega
  cases h with
  | shared => rw [hsame (by simp), hs, ← heldOf_of_slots hslots]; rfl
  | station m =>
    obtain ⟨sl, hsl⟩ := hfind m rfl
    have hsl' : u.findSlot m = some sl := by
      rw [findSlot_congr (s := s) fun k => by unfold State.slot; rw [hslots]]; exact hsl
    rw [changeHeld_heldOf hsl', heldOf_of_slots hslots, ← hs]
    by_cases hmn : m = n
    · subst hmn; rw [if_pos rfl]; exact hthis m rfl
    · rw [if_neg hmn]; exact hsame (by simpa using hmn)

theorem retire_stationsSound {g : GrantNum} {s : State} {t : Terms} {c : Closing}
    (hb : (s.grant g).body = .closing t c) (hn : c.notice.finished = true) (hs : s.StationsSound) :
    (retire g s).StationsSound := by
  have hgrant := retire_grant hb
  have hholder : (s.grant g).body.holder? = some t.holder := by rw [hb]; rfl
  have hfreed : ((retire g s).grant g).body = .free := by rw [hgrant, if_pos rfl]; rfl
  have hother : ∀ k, k ≠ g → (retire g s).grant k = s.grant k := fun k hk => by rw [hgrant, if_neg (Ne.symm hk)]
  have hnumber : ∀ sl, ((retire g s).slot sl).number? = (s.slot sl).number? := fun sl => by
    rw [retire_closing hb]; exact changeHeld_number ..
  refine ⟨hs.distinct.of_tag hnumber, ?_, ?_⟩
  · refine heldCounted_of_change (g := g) (h := t.holder) (f := fun n => n - 1)
      (u := { s.setGrant g { gen := (s.grant g).gen + 1, inFlight := 0, body := .free } with
        index := s.index.filter (fun h => h != g), freeList := s.freeList ++ [g] })
      hs.held (fun k hk => by rw [hother k hk]) rfl (fun n => ?_) (fun m hm => ?_) (fun n hne => ?_) (fun n hh => ?_)
    · rw [retire_closing hb]; rfl
    · exact hs.held.findSlot (hholder.trans (by rw [hm]))
    · rw [hholder, hfreed]
      simpa [Body.holder?, Body.terms?] using hne
    · have := holderCount_change (fun k hk => congrArg Grant.body (hother k hk)) n
      rw [hholder, hfreed, hh] at this
      rw [beq_self_eq_true, show (Body.free.holder? == some (.station n)) = false from rfl] at this
      simp only [Bool.toNat_true, Bool.toNat_false] at this
      omega
  · refine hs.queues.of_unnoticed (g := g) hother ?_ ?_ (retire_notices g s) hnumber
    · rintro n ⟨t', c', hb', -, ho⟩
      rw [hb] at hb'
      cases hb'
      rw [Notice.isOpen, hn] at ho
      cases ho
    · exact Grant.not_openFor fun t' c' h => by rw [hfreed] at h; cases h

/-- The holder of a passing ISSUE is found (R19, check 3). -/
theorem issueHolderRefusal_findSlot {s : State} {n : StationNum} (h : issueHolderRefusal s (.station n) = none) :
    ∃ sl, s.findSlot n = some sl := by
  cases hf : s.findSlot n with
  | some sl => exact ⟨sl, rfl⟩
  | none => simp [issueHolderRefusal, hf] at h

theorem allocate_stationsSound {g : GrantNum} {rest : List GrantNum} {t : Terms} {s : State}
    (hl : s.freeList = g :: rest) (hh : issueHolderRefusal s t.holder = none) (hp : s.GrantListsPartition)
    (hs : s.StationsSound) : (allocate g rest t s).StationsSound := by
  obtain ⟨hfree, -⟩ := hp.head_free hl
  have hgrant := fun k => allocate_grant g k rest t s
  have hlive : ((allocate g rest t s).grant g).body = .live t := by rw [hgrant, if_pos rfl]
  have hother : ∀ k, k ≠ g → (allocate g rest t s).grant k = s.grant k := fun k hk => by
    rw [hgrant, if_neg (Ne.symm hk)]
  have hnumber : ∀ sl, ((allocate g rest t s).slot sl).number? = (s.slot sl).number? := fun sl =>
    changeHeld_number ..
  have hnone : ∀ n, ((s.grant g).body.holder? == some (.station n)) = false := fun n => by rw [hfree]; rfl
  refine ⟨hs.distinct.of_tag hnumber, ?_, ?_⟩
  · refine heldCounted_of_change (g := g) (h := t.holder) (f := fun n => n + 1)
      (u := { s.setGrant g { gen := (s.grant g).gen, inFlight := 0, body := .live t } with
        freeList := rest, index := s.insertIndex t.base g s.index })
      hs.held (fun k hk => by rw [hother k hk]) rfl (fun n => rfl) (fun m hm => ?_) (fun n hne => ?_) (fun n hh => ?_)
    · exact issueHolderRefusal_findSlot (hm ▸ hh)
    · rw [hnone, hlive]
      simpa [Body.holder?, Body.terms?] using hne
    · have := holderCount_change (fun k hk => congrArg Grant.body (hother k hk)) n
      rw [hnone, hlive, show (Body.live t).holder? = some (.station n) from congrArg some hh, beq_self_eq_true] at this
      simpa only [Bool.toNat_false, Bool.toNat_true, Nat.add_zero] using this
  · refine hs.queues.of_unnoticed (g := g) hother ?_ ?_ (allocate_notices g rest t s) hnumber
    · exact Grant.not_openFor fun t' c' h => by rw [hfree] at h; cases h
    · exact Grant.not_openFor fun t' c' h => by rw [hlive] at h; cases h

/-! ### The notice queues (R32, R110, R114, R117, R120) -/

/-- The head of a queue has an open notice to the station that the slot names, and stands in no other queue and in no
tail (R109). -/
theorem State.StationsSound.head {s : State} (hs : s.StationsSound) {sl : SlotNum} {g : GrantNum} {rest : List GrantNum}
    (hq : (s.slot sl).queue = g :: rest) :
    (∃ n, (s.slot sl).number? = some n ∧ (s.grant g).openFor n) ∧ g ∉ rest ∧
      ∀ k, k ≠ sl → g ∉ (s.slot k).queue := by
  have hqueues := (noticeQueuesSound_iff s).1 hs.queues
  have hmem := ((hqueues sl).mem g).1 (by rw [hq]; exact List.mem_cons_self)
  have hnodup := (hqueues sl).nodup
  rw [hq] at hnodup
  refine ⟨hmem, (List.nodup_cons.1 hnodup).1, fun k hk hgk => hk ?_⟩
  obtain ⟨n, hn, t, c, hb, hh, -⟩ := hmem
  obtain ⟨m, hm, t', c', hb', hh', -⟩ := ((hqueues k).mem g).1 hgk
  rw [hb] at hb'
  cases hb'
  rw [hh] at hh'
  cases hh'
  exact (stationsDistinct_iff s).1 hs.distinct k sl n hm hn

theorem Grant.withNotice_holder (x : Grant) (n : Notice) : (x.withNotice n).body.holder? = x.body.holder? := by
  unfold Grant.withNotice
  split
  · next hb => rw [hb]; rfl
  · rfl
  · rfl

/-- A CLOSING record's notice is open as its notice state says. -/
theorem Grant.openFor_withNotice {x : Grant} {n : StationNum} (h : x.openFor n) (nt : Notice) (m : StationNum) :
    (x.withNotice nt).openFor m ↔ nt.isOpen = true ∧ x.openFor m := by
  obtain ⟨t, c, hb, hh, ho⟩ := h
  simp only [Grant.openFor, Grant.withNotice, hb, Body.closing.injEq]
  constructor
  · rintro ⟨t', c', ⟨rfl, rfl⟩, hm, hopen⟩
    exact ⟨hopen, _, _, ⟨rfl, rfl⟩, hm, ho⟩
  · rintro ⟨hopen, t', c', ⟨rfl, rfl⟩, hm, -⟩
    exact ⟨_, _, ⟨rfl, rfl⟩, hm, hopen⟩

/-- The counts of the stations do not depend on the notice states. -/
theorem setNotice_counts (g : GrantNum) (n : Notice) (s : State) :
    ∀ k, ((setNotice g n s).grant k).body.holder? = (s.grant k).body.holder? := fun k => by
  rw [setNotice_grant]
  split
  · exact Grant.withNotice_holder ..
  · rfl

/-- The head's open notice state is replaced by another open one (R113, R114). -/
theorem recounts_stationsSound {s : State} {sl : SlotNum} {g : GrantNum} {rest : List GrantNum} {nt : Notice}
    (hq : (s.slot sl).queue = g :: rest) (ho : nt.isOpen = true) (hs : s.StationsSound) :
    (setNotice g nt s).StationsSound := by
  obtain ⟨⟨n, hn, hopen⟩, hrest, hothers⟩ := hs.head hq
  have hslot := setNotice_slot g nt s
  refine ⟨hs.distinct.of_tag fun k => by rw [hslot], hs.held.of_same (setNotice_counts g nt s) fun k => by rw [hslot],
    ?_⟩
  rw [noticeQueuesSound_iff]
  intro k
  rw [hslot]
  refine ((noticeQueuesSound_iff s).1 hs.queues k).congr (fun h m => ?_) (fun h hh => ?_) fun _ => id
  · rw [setNotice_grant]
    split
    · next e => subst e; rw [Grant.openFor_withNotice hopen, ho]; simp
    · rfl
  · rw [setNotice_grant, if_neg]
    · exact id
    · rintro rfl
      by_cases hk : k = sl
      · subst hk; rw [hq] at hh; exact hrest hh
      · exact hothers k hk (List.mem_of_mem_tail hh)

/-- The notice queues when slot `sl`'s is replaced by a part of it, and the grants that left have no open notice. -/
theorem State.StationsSound.of_left {s t : State} {sl : SlotNum} {q : List GrantNum} (hs : s.StationsSound)
    (hholder : ∀ g, (t.grant g).body.holder? = (s.grant g).body.holder?)
    (htag : ∀ k, (t.slot k).tag = (s.slot k).tag)
    (hqueue : ∀ k, (t.slot k).queue = if sl = k then q else (s.slot k).queue)
    (hframe : ∀ k, (t.slot k).frame = .none ∨ k ≠ sl ∧ (t.slot k).frame = (s.slot k).frame)
    (hq : q.Sublist (s.slot sl).queue) (hqt : q.tail.Sublist (s.slot sl).queue.tail)
    (hstay : ∀ g, g ∉ (s.slot sl).queue ∨ g ∈ q → t.grant g = s.grant g)
    (hleft : ∀ g, g ∈ (s.slot sl).queue → g ∉ q → ∀ n, ¬ (t.grant g).openFor n) : t.StationsSound := by
  have hqueues := (noticeQueuesSound_iff s).1 hs.queues
  have hnumber : ∀ k, (t.slot k).number? = (s.slot k).number? := fun k => Slot.number_of_tag (htag k)
  refine ⟨hs.distinct.of_tag hnumber, hs.held.of_same hholder htag, ?_⟩
  rw [noticeQueuesSound_iff]
  intro k
  rw [hqueue, hnumber]
  have hk := hqueues k
  by_cases hsl : sl = k
  · subst hsl
    rw [if_pos rfl]
    refine ⟨hq.nodup hk.nodup, fun _ => (hframe sl).resolve_right fun h => h.1 rfl, fun g => ⟨fun hg => ?_, ?_⟩,
      fun g hg => ?_⟩
    · obtain ⟨n, hn, hopen⟩ := (hk.mem g).1 (hq.subset hg)
      exact ⟨n, hn, hstay g (.inr hg) ▸ hopen⟩
    · rintro ⟨n, hn, hopen⟩
      by_contra hg
      by_cases hgs : g ∈ (s.slot sl).queue
      · exact hleft g hgs hg n hopen
      · exact hgs ((hk.mem g).2 ⟨n, hn, hstay g (.inl hgs) ▸ hopen⟩)
    · rw [hstay g (.inr (List.mem_of_mem_tail hg))]
      exact hk.tail g (hqt.subset hg)
  · rw [if_neg hsl]
    have hsame : ∀ g n, (s.slot k).number? = some n → ((t.grant g).openFor n ↔ (s.grant g).openFor n) := fun g n
        hn => by
      by_cases hg : g ∈ (s.slot sl).queue
      · by_cases hgq : g ∈ q
        · rw [hstay g (.inr hgq)]
        · refine iff_of_false (hleft g hg hgq n) fun hopen => ?_
          obtain ⟨m, hm, hom⟩ := ((hqueues sl).mem g).1 hg
          obtain ⟨_, _, hb, hh, -⟩ := hom
          obtain ⟨_, _, hb', hh', -⟩ := hopen
          rw [hb] at hb'; cases hb'
          rw [hh] at hh'; cases hh'
          exact hsl ((stationsDistinct_iff s).1 hs.distinct sl k n hm hn)
      · rw [hstay g (.inl hg)]
    refine ⟨hk.nodup, fun hnil => ?_, fun g => ?_, fun g hg => ?_⟩
    · obtain h | ⟨-, h⟩ := hframe k
      · exact h
      · rw [h]; exact hk.frame hnil
    · rw [hk.mem]
      exact exists_congr fun n => and_congr_right fun hn => (hsame g n hn).symm
    · have hgk := List.mem_of_mem_tail hg
      obtain ⟨n, hn, hopen⟩ := (hk.mem g).1 hgk
      rw [hstay g (.inl fun hgs => ?_)]
      · exact hk.tail g hg
      · obtain ⟨m, hm, hom⟩ := ((hqueues sl).mem g).1 hgs
        obtain ⟨_, _, hb, hh, -⟩ := hom
        obtain ⟨_, _, hb', hh', -⟩ := hopen
        rw [hb] at hb'; cases hb'
        rw [hh] at hh'; cases hh'
        exact hsl ((stationsDistinct_iff s).1 hs.distinct sl k n hm hn)

theorem withdrawFrame_slot (sl k : SlotNum) (s : State) :
    (withdrawFrame sl s).slot k = if sl = k then { s.slot k with frame := .none } else s.slot k := by
  have hset : ∀ (offers : List SlotNum) (tx : Tx),
      ({ s.setSlot sl { s.slot sl with frame := .none } with offers := offers, tx := tx } : State).slot k =
        if sl = k then { s.slot k with frame := .none } else s.slot k := fun offers tx => by
    refine (State.slot_setSlot s sl k _).trans ?_
    split
    · next h => rw [h]
    · rfl
  unfold withdrawFrame
  split
  · next hf =>
    split
    · next h => subst h; rw [← hf]
    · rfl
  · exact hset ..
  · exact hset ..

theorem withdrawFrame_grant (sl : SlotNum) (s : State) (g : GrantNum) : (withdrawFrame sl s).grant g = s.grant g := by
  obtain ⟨_, _, _, h⟩ := withdrawFrame_only sl s
  rw [h]; rfl

/-- A head that leaves its queue: the slot is left with the rest and no frame (R117). -/
theorem leaveQueue_slot {sl : SlotNum} {outcome : Notice} {s : State} {g : GrantNum} {rest : List GrantNum}
    (hq : (s.slot sl).queue = g :: rest) (k : SlotNum) :
    (leaveQueue sl outcome s).slot k =
      if sl = k then { s.slot k with queue := rest, frame := .none } else s.slot k := by
  simp only [leaveQueue, hq]
  rw [State.slot_setSlot, withdrawFrame_slot, withdrawFrame_slot, setNotice_slot, setNotice_slot]
  by_cases h : sl = k
  · subst h; simp
  · simp [h]

theorem leaveQueue_grant {sl : SlotNum} {outcome : Notice} {s : State} {g : GrantNum} {rest : List GrantNum}
    (hq : (s.slot sl).queue = g :: rest) (k : GrantNum) :
    (leaveQueue sl outcome s).grant k = if g = k then (s.grant k).withNotice outcome else s.grant k := by
  simp only [leaveQueue, hq]
  rw [State.grant_setSlot_other, withdrawFrame_grant, setNotice_grant]

theorem leaveQueue_stationsSound {sl : SlotNum} {outcome : Notice} {s : State} (ho : outcome.finished = true)
    (hs : s.StationsSound) : (leaveQueue sl outcome s).StationsSound := by
  cases hq : (s.slot sl).queue with
  | nil => rw [show leaveQueue sl outcome s = s by simp [leaveQueue, hq]]; exact hs
  | cons g rest =>
    obtain ⟨⟨n, -, hopen⟩, hrest, -⟩ := hs.head hq
    have hslot := leaveQueue_slot (outcome := outcome) hq
    have hgrant := leaveQueue_grant (outcome := outcome) hq
    refine hs.of_left (sl := sl) (q := rest) (fun k => ?_) (fun k => ?_) (fun k => ?_) (fun k => ?_)
      ?_ ?_ (fun k hk => ?_) (fun k hk hkr m => ?_)
    · rw [hgrant]
      split
      · exact Grant.withNotice_holder ..
      · rfl
    · rw [hslot]; split <;> rfl
    · rw [hslot]; split <;> rfl
    · rw [hslot]
      split
      · exact .inl rfl
      · next h => exact .inr ⟨Ne.symm h, rfl⟩
    · rw [hq]; exact List.sublist_cons_self g rest
    · rw [hq]; exact List.tail_sublist rest
    · rw [hgrant, if_neg]
      rintro rfl
      rw [hq] at hk
      exact hk.elim (fun h => h List.mem_cons_self) hrest
    · rw [hq] at hk
      obtain rfl | hk := List.mem_cons.1 hk
      · rw [hgrant, if_pos rfl, Grant.openFor_withNotice hopen, Notice.isOpen, ho]
        simp
      · exact absurd hk hkr

theorem abandonQueue_grant (sl : SlotNum) (s : State) (g : GrantNum) : (abandonQueue sl s).grant g = s.grant g :=
  withdrawFrame_grant sl s g

theorem abandonQueue_slot (sl k : SlotNum) (s : State) :
    (abandonQueue sl s).slot k = if sl = k then { s.slot k with queue := [], frame := .none } else s.slot k := by
  unfold abandonQueue
  simp only
  rw [State.slot_setSlot, withdrawFrame_slot, withdrawFrame_slot]
  by_cases h : sl = k
  · subst h; simp
  · simp [h]

theorem foldl_setNotice_slot (nt : Notice) (gs : List GrantNum) (s : State) (k : SlotNum) :
    (gs.foldl (fun s g => setNotice g nt s) s).slot k = s.slot k :=
  foldl_view (v := fun s => s.slot k) (fun s g => setNotice_slot g nt s k) gs s

theorem Grant.withNotice_withNotice (x : Grant) (n m : Notice) : (x.withNotice n).withNotice m = x.withNotice m := by
  cases hb : x.body <;> simp [Grant.withNotice, hb]

theorem foldl_setNotice_grant (nt : Notice) (gs : List GrantNum) (s : State) (k : GrantNum) :
    (gs.foldl (fun s g => setNotice g nt s) s).grant k = if k ∈ gs then (s.grant k).withNotice nt else s.grant k := by
  induction gs generalizing s with
  | nil => rfl
  | cons g gs ih =>
    rw [List.foldl_cons, ih, setNotice_grant]
    by_cases hg : g = k
    · subst hg; simp [Grant.withNotice_withNotice]
    · simp [hg, Ne.symm hg]

/-- The open notices of a station are those of its queue (R53, R109). -/
theorem mem_openNotices (s : State) (n : StationNum) (g : GrantNum) : g ∈ s.openNotices n ↔ (s.grant g).openFor n := by
  simp only [State.openNotices, List.mem_filter, List.mem_finRange, true_and, Grant.openFor]
  cases hb : (s.grant g).body with
  | free | live => simp
  | closing t c =>
    simp only [Bool.and_eq_true, beq_iff_eq, Body.closing.injEq]
    exact ⟨fun h => ⟨t, c, ⟨rfl, rfl⟩, h⟩, fun ⟨_, _, ⟨ht, hc⟩, h⟩ => by subst ht hc; exact h⟩

theorem abandons_stationsSound {s : State} {sl : SlotNum} {r : Station} (hr : (s.slot sl).record = some r)
    (hs : s.StationsSound) :
    ((s.openNotices r.number).foldl (fun s g => setNotice g .abandoned s) (abandonQueue sl s)).StationsSound := by
  have hslot := fun k => (foldl_setNotice_slot .abandoned (s.openNotices r.number) (abandonQueue sl s) k).trans
    (abandonQueue_slot sl k s)
  have hgrant := fun k => foldl_setNotice_grant .abandoned (s.openNotices r.number) (abandonQueue sl s) k
  simp only [abandonQueue_grant] at hgrant
  have hmem : ∀ g, g ∈ (s.slot sl).queue ↔ g ∈ s.openNotices r.number := fun g => by
    rw [((noticeQueuesSound_iff s).1 hs.queues sl).mem, mem_openNotices, Slot.number?, hr]
    simp
  refine hs.of_left (sl := sl) (q := []) (fun k => ?_) (fun k => ?_) (fun k => ?_) (fun k => ?_)
    (List.nil_sublist _) (List.nil_sublist _) (fun k hk => ?_) (fun k hk _ m => ?_)
  · rw [hgrant]
    split
    · exact Grant.withNotice_holder ..
    · rfl
  · rw [hslot]; split <;> rfl
  · rw [hslot]; split <;> rfl
  · rw [hslot]
    split
    · exact .inl rfl
    · next h => exact .inr ⟨Ne.symm h, rfl⟩
  · rw [hgrant, if_neg]
    rw [← hmem]
    simpa using hk
  · rw [hgrant, if_pos ((hmem k).1 hk)]
    have hopen := (mem_openNotices s r.number k).1 ((hmem k).1 hk)
    rw [Grant.openFor_withNotice hopen]
    simp [Notice.isOpen, Notice.finished]

/-! ### Closing (R32, R110) -/

theorem enqueueNotice_slot {g : GrantNum} {n : StationNum} {s : State} {sl : SlotNum} (hf : s.findSlot n = some sl)
    (k : SlotNum) : (enqueueNotice g (.station n) s).slot k =
      if sl = k then { s.slot k with queue := (s.slot k).queue ++ [g] } else s.slot k := by
  simp only [enqueueNotice, hf]
  rw [State.slot_setSlot]
  split
  · next h => rw [h]
  · rfl

theorem Grant.closed_holder (x : Grant) (cause : Cause) : (x.closed cause).body.holder? = x.body.holder? := by
  unfold Body.holder?
  rw [Grant.closed_terms]

/-- A closed record has an open notice to its holder if its closing owes one, or if it was CLOSING with one. -/
theorem Grant.openFor_closed {x : Grant} {t : Terms} (hb : x.body = .live t) (cause : Cause) (n : StationNum) :
    (x.closed cause).openFor n ↔ noticeDue cause t = true ∧ t.holder = .station n := by
  rw [Grant.closed_live hb]
  simp only [Grant.openFor, Body.closing.injEq]
  constructor
  · rintro ⟨t', c', ⟨rfl, rfl⟩, hh, ho⟩
    cases hd : noticeDue cause t
    · rw [hd] at ho; cases ho
    · exact ⟨rfl, hh⟩
  · rintro ⟨hd, hh⟩
    exact ⟨t, _, ⟨rfl, rfl⟩, hh, by rw [hd]; rfl⟩

theorem closeGrant_stationsSound (cause : Cause) (g : GrantNum) {s : State} (hs : s.StationsSound) :
    (closeGrant cause g s).StationsSound := by
  cases hb : (s.grant g).body with
  | free | closing => rw [show closeGrant cause g s = s by simp [closeGrant, hb]]; exact hs
  | live t =>
    have hgrant := closeGrant_grant cause g
    have hrecord := closeGrant_record cause g s
    have hqueues := (noticeQueuesSound_iff s).1 hs.queues
    have hnot : ∀ n, ¬ (s.grant g).openFor n := Grant.not_openFor fun t' c h => by rw [hb] at h; cases h
    have hout : ∀ k, g ∉ (s.slot k).queue := fun k hk => by
      obtain ⟨n, -, hn⟩ := ((hqueues k).mem g).1 hk
      exact hnot n hn
    have hother : ∀ k, k ≠ g → (closeGrant cause g s).grant k = s.grant k := fun k hk => by
      rw [hgrant, if_neg (Ne.symm hk)]
    have hself : (closeGrant cause g s).grant g = (s.grant g).closed cause := by rw [hgrant, if_pos rfl]
    have hopen : ∀ n, ((closeGrant cause g s).grant g).openFor n ↔ noticeDue cause t = true ∧ t.holder = .station n :=
      fun n => hself ▸ Grant.openFor_closed hb cause n
    have htag : ∀ k, ((closeGrant cause g s).slot k).tag = (s.slot k).tag := fun k => tag_of_record (hrecord k)
    have hnumber : ∀ k, ((closeGrant cause g s).slot k).number? = (s.slot k).number? := fun k =>
      Slot.number_of_tag (htag k)
    refine ⟨hs.distinct.of_tag hnumber, hs.held.of_same (fun k => ?_) htag, ?_⟩
    · rw [hgrant]
      split
      · exact Grant.closed_holder ..
      · rfl
    cases hd : noticeDue cause t with
    | false =>
      refine hs.queues.of_unnoticed hother hnot (fun n => ?_) (fun k => ?_) hnumber
      · rw [hopen, hd]; simp
      · rw [closeGrant_not_due hb hd]; rfl
    | true =>
      obtain ⟨n, hn⟩ : ∃ n, t.holder = .station n := by
        cases hh : t.holder with
        | station n => exact ⟨n, rfl⟩
        | shared => simp [noticeDue, hh, Holder.isShared] at hd
      obtain ⟨sl, hsl⟩ := hs.held.findSlot (g := g) (n := n) (by rw [hb]; exact congrArg some hn)
      have hslot : ∀ k, (closeGrant cause g s).slot k =
          if sl = k then { s.slot k with queue := (s.slot k).queue ++ [g] } else s.slot k := fun k => by
        rw [closeGrant_due hb hd, hn]
        exact enqueueNotice_slot (s := s.setBody g _) hsl k
      have hiff : ∀ k, (∃ m, (s.slot k).number? = some m ∧ t.holder = .station m) ↔ k = sl := fun k => by
        constructor
        · rintro ⟨m, hm, hh⟩
          rw [hn] at hh; cases hh
          exact (stationsDistinct_iff s).1 hs.distinct k sl n hm (s.findSlot_number hsl)
        · rintro rfl
          exact ⟨n, s.findSlot_number hsl, hn⟩
      rw [noticeQueuesSound_iff]
      intro k
      have hk := hqueues k
      have hmem : ∀ h, (∃ m, (s.slot k).number? = some m ∧ ((closeGrant cause g s).grant h).openFor m) ↔
          h ∈ (s.slot k).queue ∨ (h = g ∧ k = sl) := fun h => by
        by_cases hg : h = g
        · subst hg
          simp only [hopen, hd, true_and, hiff, hout k, false_or]
        · rw [hother h hg, hk.mem]
          simp [hg]
      rw [hnumber, hslot]
      split
      · next e =>
        subst e
        refine ⟨List.nodup_append.2 ⟨hk.nodup, List.nodup_singleton g, fun a ha b hb' => ?_⟩, fun h => ?_, fun h => ?_,
          fun h hh => ?_⟩
        · rintro rfl
          exact hout sl (List.mem_singleton.1 hb' ▸ ha)
        · simp at h
        · rw [hmem, List.mem_append, List.mem_singleton]; simp
        · simp only at hh
          have hcases : h = g ∨ h ∈ (s.slot sl).queue.tail := by
            cases hq : (s.slot sl).queue with
            | nil => rw [hq] at hh; simp at hh
            | cons a q =>
              rw [hq] at hh
              simp only [List.cons_append, List.tail_cons, List.mem_append, List.mem_singleton] at hh
              exact hh.symm
          clear hh
          obtain rfl | htail := hcases
          · rw [hself, Grant.closed_live hb, hd]
            intro t' c' he
            cases he
            rfl
          · rw [hother h (by rintro rfl; exact hout sl (List.mem_of_mem_tail htail))]
            exact hk.tail h htail
      · next e =>
        refine ⟨hk.nodup, hk.frame, fun h => ?_, fun h hh => ?_⟩
        · rw [hmem]; simp [Ne.symm e]
        · rw [hother h (by rintro rfl; exact hout k (List.mem_of_mem_tail hh))]
          exact hk.tail h hh

/-! ### Records created and forgotten (R45, R48) -/

/-- A station without a record has no grant (R21). -/
theorem State.HeldCounted.no_openFor {s : State} (hs : s.HeldCounted) {n : StationNum} (hn : s.heldOf n = 0)
    (g : GrantNum) : ¬ (s.grant g).openFor n := by
  rintro ⟨t, c, hb, hh, -⟩
  have hcount := (heldCounted_iff s).1 hs n
  rw [hn] at hcount
  have := List.countP_eq_zero.1 hcount g (List.mem_finRange g)
  rw [hb] at this
  exact this (beq_iff_eq.2 (congrArg some hh))

theorem heldOf_of_not_found {s : State} {n : StationNum} (h : s.findSlot n = none) : s.heldOf n = 0 := by
  simp [State.heldOf, h]

/-- One slot's record replaced by another record or none, both with held count 0. -/
theorem setRecord_stationsSound {s : State} {sl : SlotNum} {r : Option Station} (hs : s.StationsSound)
    (hold : ∀ y, (s.slot sl).record = some y → y.held = 0) (hnew : ∀ y, r = some y → y.held = 0)
    (hn : ∀ y, r = some y → s.findSlot y.number = none) :
    (s.setSlot sl { s.slot sl with record := r }).StationsSound := by
  have hdistinct := (stationsDistinct_iff s).1 hs.distinct
  have hslot : ∀ k, (s.setSlot sl { s.slot sl with record := r }).slot k =
      if sl = k then { s.slot k with record := r } else s.slot k := fun k => by
    rw [State.slot_setSlot]
    split
    · next h => rw [h]
    · rfl
  have hnumber : ∀ k, ((s.setSlot sl { s.slot sl with record := r }).slot k).number? =
      if sl = k then r.map Station.number else (s.slot k).number? := fun k => by
    rw [hslot]; split <;> rfl
  have hnotFound : ∀ k n, r.map Station.number = some n → (s.slot k).number? ≠ some n := fun k n h => by
    obtain ⟨y, hy, rfl⟩ := Option.map_eq_some_iff.1 h
    exact s.findSlot_none (hn y hy) k
  have hheldNew : ∀ n, r.map Station.number = some n → s.heldOf n = 0 := fun n h => by
    obtain ⟨y, hy, rfl⟩ := Option.map_eq_some_iff.1 h
    exact heldOf_of_not_found (hn y hy)
  have hheldOld : ∀ n, (s.slot sl).number? = some n → s.heldOf n = 0 := fun n h => by
    have hfind := s.findSlot_of_number h fun k hk => hdistinct k sl n hk h
    obtain ⟨y, hy, -⟩ := Option.map_eq_some_iff.1 h
    simp [State.heldOf, hfind, hy, hold y hy]
  refine ⟨?_, ?_, ?_⟩
  · rw [stationsDistinct_iff]
    intro k l n hk hl
    rw [hnumber] at hk hl
    split at hk <;> split at hl
    · next h h' => exact h.symm.trans h'
    · exact absurd hl (hnotFound l n hk)
    · exact absurd hk (hnotFound k n hl)
    · exact hdistinct k l n hk hl
  · rw [heldCounted_iff]
    intro n
    refine (((heldCounted_iff s).1 hs.held n)).trans ?_
    by_cases hnew' : r.map Station.number = some n
    · rw [hheldNew n hnew']
      obtain ⟨y, hy, rfl⟩ := Option.map_eq_some_iff.1 hnew'
      have hfind : (s.setSlot sl { s.slot sl with record := r }).findSlot y.number = some sl :=
        State.findSlot_of_number (by rw [hnumber, if_pos rfl]; exact hnew') fun k hk => by
          rw [hnumber] at hk
          split at hk
          · next h => exact h.symm
          · exact absurd hk (hnotFound k _ hnew')
      unfold State.heldOf
      rw [hfind, Option.bind_some, hslot, if_pos rfl]
      simp only [hy, Option.map_some, Option.getD_some, hnew y hy]
    · by_cases hold' : (s.slot sl).number? = some n
      · have hfind : (s.setSlot sl { s.slot sl with record := r }).findSlot n = none := by
          by_contra hf
          obtain ⟨k, hk⟩ := Option.ne_none_iff_exists'.1 hf
          have := State.findSlot_number hk
          rw [hnumber] at this
          split at this
          · exact hnew' this
          · next h => exact h (hdistinct sl k n hold' this)
        rw [hheldOld n hold', heldOf_of_not_found hfind]
      · have hfind : (s.setSlot sl { s.slot sl with record := r }).findSlot n = s.findSlot n := by
          unfold State.findSlot
          refine congrArg (List.find? · _) (funext fun k => ?_)
          rw [Slot.names_eq, Slot.names_eq, hnumber]
          split
          · next h =>
            subst h
            rw [beq_eq_false_iff_ne.2 hnew', beq_eq_false_iff_ne.2 hold']
          · rfl
        unfold State.heldOf
        rw [hfind]
        cases hk : s.findSlot n with
        | none => rfl
        | some k =>
          have hne : sl ≠ k := by
            rintro rfl
            exact hold' (s.findSlot_number hk)
          simp only [Option.bind_some, hslot, if_neg hne]
  · rw [noticeQueuesSound_iff]
    intro k
    have hk := (noticeQueuesSound_iff s).1 hs.queues k
    rw [hnumber, hslot]
    by_cases h : sl = k
    · subst h
      rw [if_pos rfl, if_pos rfl]
      refine ⟨hk.nodup, hk.frame, fun g => (hk.mem g).trans ?_, hk.tail⟩
      refine iff_of_false ?_ ?_
      · rintro ⟨n, hn', ho⟩
        exact hs.held.no_openFor (hheldOld n hn') g ho
      · rintro ⟨n, hn', ho⟩
        exact hs.held.no_openFor (hheldNew n hn') g ho
    · rw [if_neg h, if_neg h]
      exact hk

/-! ### Every part of a step -/

/-- The lists, the queues of the Command Unit and the stations, which each other's upkeep needs. -/
structure State.TablesSound (s : State) : Prop where
  partition : s.GrantListsPartition
  queues : s.QueuesSound
  stations : s.StationsSound

theorem testReady_stationsSound (g : GrantNum) {s : State} (hs : s.StationsSound) : (testReady g s).StationsSound := by
  cases hr : (s.grant g).isReady with
  | false => rw [testReady_not_ready hr]; exact hs
  | true =>
    obtain ⟨t, c, hb, -, hn, -⟩ := Grant.isReady_closing hr
    cases hf : s.slotFree with
    | true => rw [testReady_retires hr hf]; exact retire_stationsSound hb hn hs
    | false =>
      rw [testReady_waits hr hf]
      exact hs.of_same ((setRetireWait_stationsSame g s).trans (stationsSame_of_tables rfl rfl))

theorem Act.stationsSound {e : Effect} {s t : State} (h : Act e s t) (hs : s.TablesSound) : t.StationsSound := by
  obtain ⟨hpart, hqueues, hs⟩ := hs
  cases h with
  | registers | phaseRestarts | receptionEnds | trains | enables | disables | trainingRestarts | entersUp | replies
  | replySent | contextReplySent | detachedSent | port | changesContext | binds | queuesReply | fifoJoins | fifoLeaves
  | reports | setsLimits | setsTiming | holds | resumes => exact hs.of_same (stationsSame_of_tables rfl rfl)
  | goesDown =>
    refine State.StationsSound.of_same (s := { s with linkEnable := false }) ?_ (linkLeavesUp_stationsSame .down _)
    exact hs.of_same (stationsSame_of_tables rfl rfl)
  | losesSync =>
    exact hs.of_same ((linkLeavesUp_stationsSame .training s).trans (stationsSame_of_tables rfl rfl))
  | transmits => exact hs.of_same (txTake_stationsSame s)
  | offers => exact hs.of_same (offerFrame_stationsSame ..)
  | noticeSent _ sl f =>
    exact hs.of_same ((setFrame_stationsSame (sl := sl) (x := .none) fun _ _ => rfl).trans
      (stationsSame_of_tables rfl rfl))
  | recounts _ sl g rest n tries ticks hq => exact recounts_stationsSound hq rfl hs
  | leavesQueue _ sl outcome ho => exact leaveQueue_stationsSound ho hs
  | abandons _ sl r hr => exact abandons_stationsSound hr hs
  | closes _ cause g => exact closeGrant_stationsSound cause g hs
  | countsDown =>
    have hdown := hs.of_same (countDownAll_stationsSame s)
    exact List.foldlRecOn _ _ hdown fun u hu g _ => closeGrant_stationsSound .expired g hu
  | tested _ g => exact testReady_stationsSound g hs
  | countsInFlight _ g n => exact hs.of_same (inFlight_stationsSame g n s)
  | renews _ g t n hb => exact hs.of_same (setBody_live_stationsSame hb rfl)
  | amends _ f g t hb => exact hs.of_same (setBody_live_stationsSame hb rfl)
  | issues _ _ _ _ _ _ _ hh _ hl => exact allocate_stationsSound hl hh hpart hs
  | changesRecord _ sl f hf =>
    exact hs.of_same (modifyRecord_stationsSame (fun r => ⟨(hf r).1, (hf r).2.1⟩) sl s)
  | creates _ sl r hv hn hh =>
    refine setRecord_stationsSound hs (fun y hy => ?_) (fun y hy => ?_) (fun y hy => ?_)
    · rw [hv] at hy; cases hy
    · cases hy; exact hh
    · cases hy; exact hn
  | admits _ sl r hv hn hh =>
    refine State.StationsSound.of_same ?_ (handAdmitted_stationsSame sl r.number (createStation sl r s))
    refine setRecord_stationsSound hs (fun y hy => ?_) (fun y hy => ?_) (fun y hy => ?_)
    · rw [hv] at hy; cases hy
    · cases hy; exact hh
    · cases hy; exact hn
  | restarts => exact hs.of_same (handRestarted_stationsSame ..)
  | forgets _ sl r hr hh =>
    refine setRecord_stationsSound hs (fun y hy => ?_) (fun y hy => by cases hy) (fun y hy => by cases hy)
    rw [hr] at hy; cases hy; exact hh
  | idles _ c =>
    exact hs.of_same ((stationsSame_of_tables (s := s) (t := s.enter c .idle) rfl rfl).trans (drainTest_stationsSame _))
  | placesBacklog => rw [placeBacklogHead_waits hqueues]; exact hs
  | drains => exact hs.of_same (drainTest_stationsSame s)

/-- Empty slots and no grant: what the resets leave. -/
theorem stationsSound_of_free {s : State} (hg : ∀ g, (s.grant g).body = .free)
    (hq : ∀ sl, (s.slot sl).queue = [] ∧ (s.slot sl).frame = .none)
    (hh : ∀ sl r, (s.slot sl).record = some r → r.held = 0) (hd : s.StationsDistinct) : s.StationsSound where
  distinct := hd
  held := (heldCounted_iff s).2 fun n => by
    have hcount : s.holderCount n = 0 := List.countP_eq_zero.2 fun g _ => by rw [hg]; exact Bool.noConfusion
    have hheld : s.heldOf n = 0 := by
      unfold State.heldOf
      cases s.findSlot n with
      | none => rfl
      | some sl =>
        cases hr : (s.slot sl).record with
        | none => simp [hr]
        | some r => simp [hr, hh sl r hr]
    rw [hcount, hheld]
  queues := (noticeQueuesSound_iff s).2 fun sl => by
    obtain ⟨hqueue, hframe⟩ := hq sl
    rw [hqueue, hframe]
    refine ⟨List.nodup_nil, fun _ => rfl, fun g => iff_of_false List.not_mem_nil ?_, fun g h =>
      absurd h List.not_mem_nil⟩
    rintro ⟨n, -, ho⟩
    exact Grant.not_openFor (fun t c h => by rw [hg] at h; cases h) n ho

theorem tablesSound_powerOn (low out : Bool) (straps : BitVec 6) (s : State) : (powerOn low out straps s).TablesSound
    where
  partition := (powerOn_listsSound low out straps s).1
  queues := queuesSound_kept.power low out straps State.reset reset_queuesSound
  stations := by
    have hslot : ∀ sl, (powerOn low out straps s).slot sl = Slot.initial := State.reset_slot
    refine stationsSound_of_free (fun g => by rw [powerOn_grant]; rfl) (fun sl => by rw [hslot]; exact ⟨rfl, rfl⟩)
      (fun sl r h => ?_) fun sl _ x _ h => ?_
    · rw [hslot] at h; cases h
    · rw [hslot] at h; cases h

theorem engineReset_slot (s : State) (sl : SlotNum) : (engineReset s).slot sl = (s.slot sl).engineReset := by
  simp [engineReset, State.slot]

theorem tablesSound_engineReset {s : State} (hs : s.TablesSound) : (engineReset s).TablesSound where
  partition := partition_kept.reset s hs.partition
  queues := queuesSound_kept.reset s hs.queues
  stations := by
    refine stationsSound_of_free (engineReset_body s) (fun sl => by rw [engineReset_slot]; exact ⟨rfl, rfl⟩)
      (fun sl r h => ?_) (hs.stations.distinct.of_tag fun sl => ?_)
    · rw [engineReset_slot] at h
      obtain ⟨y, -, rfl⟩ := Option.map_eq_some_iff.1 h
      rfl
    · rw [engineReset_slot]
      unfold Slot.number? Slot.engineReset
      rw [Option.map_map]
      rfl

/-- The event that is placed from the backlog: a ready grant retires, or a record loses a waiting event. -/
theorem placeEvent_stationsSound {e : Event} {s : State} (he : s.EventSound e) (hs : s.StationsSound) :
    (placeEvent e s).StationsSound := by
  cases e with
  | grant g =>
    obtain ⟨t, c, hb, -, hn⟩ := he
    exact retire_stationsSound hb hn hs
  | admitted sl =>
    obtain ⟨r, hr⟩ := he
    simp only [placeEvent, hr]
    exact hs.of_same ((modifyRecord_stationsSame (f := fun r => { r with admittedWaiting := false })
      (by exact fun _ => ⟨rfl, rfl⟩) sl s).trans (stationsSame_of_tables rfl rfl))
  | restarted sl =>
    obtain ⟨r, w, hr, hw⟩ := he
    simp only [placeEvent, hr, hw]
    exact hs.of_same ((modifyRecord_stationsSame (f := fun r => { r with restartWaiting := none })
      (by exact fun _ => ⟨rfl, rfl⟩) sl s).trans (stationsSame_of_tables rfl rfl))
  | holdReached => exact hs.of_same (stationsSame_of_tables rfl rfl)

theorem State.TablesSound.of_tables {s t : State} (hs : s.TablesSound) (hp : t.table = s.table) (hg : t.slots = s.slots)
    (hq : t.QueuesSound) : t.TablesSound :=
  ⟨hs.partition.of_same (.of_table hp), hq, hs.stations.of_same (stationsSame_of_tables (congrArg Prod.fst hp) hg)⟩

theorem tablesSound_kept : Kept State.TablesSound where
  act h hs := ⟨partition_kept.act h hs.partition, h.queuesSound hs.queues, h.stationsSound hs⟩
  pending s p hs := hs.of_tables rfl rfl (queuesSound_kept.pending s p hs.queues)
  power low out straps s _ := tablesSound_powerOn low out straps s
  reset _ hs := tablesSound_engineReset hs
  free s r rest hq hb hs := hs.of_tables rfl rfl (queuesSound_kept.free s r rest hq hb hs.queues)
  place s r rest hq hb hs := by
    refine ⟨partition_kept.place s r rest hq hb hs.partition, place_queuesSound hq hb hs.queues, ?_⟩
    obtain ⟨e, events, he⟩ := List.exists_cons_of_ne_nil hb
    unfold placeBacklogHead
    simp only [he]
    have hsame : StationsSame s { s with cq := rest, backlog := events } := stationsSame_of_tables rfl rfl
    have hsound : ({ s with cq := rest, backlog := events } : State).EventSound e := by
      have := hs.queues.2.2.2.2 e (by rw [he]; exact List.mem_cons_self)
      cases e <;> exact this
    split
    · exact placeEvent_stationsSound hsound (hs.stations.of_same hsame)
    · exact hs.stations.of_same (stationsSame_of_tables rfl rfl)
  line s owner op res hp hs := by
    have hq := queuesSound_kept.line s owner op res hp hs.queues
    obtain ⟨_, h⟩ := acceptWrite_only op res { s with port := .free }
    rw [h] at hq ⊢
    exact hs.of_tables rfl rfl hq

/-- Settles O60: each act that changes a holder, a record or a notice state changes the counts and the queues with it.
-/
theorem stationCountsStayTrue : Obligations.StationCountsStayTrue := by
  intro s t hpart hqueues hdistinct hheld hnotices hstep
  obtain ⟨-, -, h1, h2, h3⟩ := tablesSound_kept.step hstep ⟨hpart, hqueues, hdistinct, hheld, hnotices⟩
  exact ⟨h1, h2, h3⟩

end Sys2Proof.Machine
end


section
/-! PROOFS. Host commands taken: a command that hands nothing over leaves its effect and its CMD_DONE record (R142,
R143); then the commands on the hold state, the settings and the station table (R154 to R160). -/

namespace Sys2Proof.Machine

/-! ### A command that hands nothing over -/

/-- A refused command leaves its CMD_DONE record alone (R142, R143). -/
theorem command_refused {tag : BitVec 16} {c : Command} {s : State} {status : CmdStatus} {w1 w2 : Word} (h : s.CanTake)
    (hc : ProperCommand c) (he : execute c s = refuseWith status w1 w2 s) :
    command tag c s = .next (s.report (commandCode c) tag status w1 w2 0) := by
  rw [command_taken_quiet h hc (by rw [he]; rfl), he]
  rfl

/-- A command carried out leaves its effect and its CMD_DONE record (R142, R143). -/
theorem command_done {tag : BitVec 16} {c : Command} {s u : State} {w1 w2 w3 : Word} (h : s.CanTake)
    (hc : ProperCommand c) (he : execute c s = done w1 w2 w3 u) :
    command tag c s = .next (u.report (commandCode c) tag .ok w1 w2 w3) := by
  rw [command_taken_quiet h hc (by rw [he]; rfl), he]
  rfl

/-- A result word that is a number. -/
theorem number_word (v : Nat) : number 0 32 v = BitVec.ofNat 32 v := by
  simp [number, place]

/-! ### HOLD, RESUME and a code that is none of the fourteen -/

/-- The model's count of the contexts that are not IDLE asks each context (R159). -/
theorem State.busyContexts_eq (s : State) :
    s.busyContexts = (List.finRange 8).countP (fun c => (s.ctx c).state != CtxState.idle) := by
  have hlist : s.ctxs.toList = (List.finRange 8).map s.ctx := by
    refine List.ext_getElem (by simp) fun i hi _ => ?_
    simp [State.ctx]
  rw [State.busyContexts, ← Vector.countP_toList, hlist, List.countP_map]
  rfl

/-- HOLD in RUNNING enters HELD or DRAINING by the contexts (R159, R175). -/
theorem executeHold_running {s : State} (freeze : Bool) (h : s.hold = .running) :
    executeHold freeze s =
      let entered : HoldState := if ∀ c : CtxNum, (s.ctx c).state = .idle then .held else .draining
      done (place 0 entered.code)
        (BitVec.ofNat 32 ((List.finRange 8).countP (fun c => (s.ctx c).state != CtxState.idle))) 0
        { s with hold := entered, freeze := freeze } := by
  simp only [executeHold, h, State.allIdle_iff, State.busyContexts_eq, number_word]

/-- HOLD in DRAINING and HELD is refused ALREADY_HELD (R159). -/
theorem executeHold_held {s : State} (freeze : Bool) (h : s.hold ≠ .running) :
    executeHold freeze s = refuseWith .alreadyHeld (place 0 s.hold.code) 0 s := by
  cases hs : s.hold with
  | running => exact absurd hs h
  | draining | held => simp only [executeHold, hs]

/-- RESUME ends a hold (R160, R180). -/
theorem executeResume_held {s : State} (h : s.hold ≠ .running) :
    executeResume s = done (place 0 s.hold.code) 0 0 { s with hold := .running, freeze := false } := by
  cases hs : s.hold with
  | running => exact absurd hs h
  | draining | held => simp only [executeResume, hs]

/-- RESUME in RUNNING is refused NOT_HELD (R160). -/
theorem executeResume_running {s : State} (h : s.hold = .running) : executeResume s = refuseWith .notHeld 0 0 s := by
  simp only [executeResume, h]
  rfl

/-- Settles O31: HOLD and RESUME by the hold state, and a code that no command has. -/
theorem holdResumeAndBadCommand : Obligations.HoldResumeAndBadCommand := by
  intro tag freeze s htake
  refine ⟨fun h => ?_, fun h => ?_, fun h => ?_, fun h => ?_, fun code hwf => ?_⟩
  · exact command_done (c := .hold freeze) htake trivial (executeHold_running freeze h)
  · exact command_refused (c := .hold freeze) htake trivial (executeHold_held freeze h)
  · exact command_done (c := .resume) htake trivial (executeResume_held h)
  · exact command_refused (c := .resume) htake trivial (executeResume_running h)
  · have hcode : code = 0 ∨ code = 15 := by simpa [WellFormed] using hwf
    exact command_refused (c := .bad code) htake hcode rfl

/-! ### SET_TIMING -/

/-- A period code names a tick period exactly up to 3, and it is the period's own (Table 11-8). -/
theorem TickPeriod.ofCode_toNat (x : BitVec 3) :
    (3 < x.toNat ∧ TickPeriod.ofCode x.toNat = none) ∨
      ∃ p, TickPeriod.ofCode x.toNat = some p ∧ p.code = x ∧ ¬ 3 < x.toNat := by
  revert x
  decide

/-- A field kept or given in its range is not refused: the test as the statement puts it. -/
theorem keptField_iff {n : Nat} (keep : Bool) (x : BitVec n) :
    (!keep && x.toNat == 0) = true ↔ keep = false ∧ x = 0 := by
  simp [BitVec.toNat_eq]

/-- The period that SET_TIMING sets, if its field is in range (R158). -/
theorem setTiming_period (f : TimingFields) (s : State) :
    ((f.keepPeriod = false ∧ 3 < f.period.toNat) ∧
        (if f.keepPeriod then some s.tickPeriod else TickPeriod.ofCode f.period.toNat) = none) ∨
      (¬ (f.keepPeriod = false ∧ 3 < f.period.toNat) ∧
        ∃ p, (if f.keepPeriod then some s.tickPeriod else TickPeriod.ofCode f.period.toNat) = some p ∧
          (f.keepPeriod = true → p = s.tickPeriod) ∧ (f.keepPeriod = false → p.code = f.period)) := by
  cases hk : f.keepPeriod with
  | true => exact .inr ⟨by simp, s.tickPeriod, rfl, fun _ => rfl, fun h => (nomatch h)⟩
  | false =>
    obtain ⟨hout, hnone⟩ | ⟨p, hsome, hcode, hin⟩ := TickPeriod.ofCode_toNat f.period
    · exact .inl ⟨⟨rfl, hout⟩, hnone⟩
    · exact .inr ⟨by simpa using hin, p, hsome, fun h => (nomatch h), fun _ => hcode⟩

/-- Settles O30: the three fields are tested, and the settings given replace the ones in force. -/
theorem setTimingSetsTiming : Obligations.SetTimingSetsTiming := by
  intro tag f s htake bad
  have hperiod := setTiming_period f s
  refine ⟨fun hbad => ?_, fun hgood => ?_⟩
  · refine command_refused (c := .setTiming f) htake trivial ?_
    simp only [execute, executeSetTiming]
    obtain ⟨-, hnone⟩ | ⟨hin, p, hsome, -⟩ := hperiod
    · rw [hnone]; rfl
    · rw [hsome]
      simp only [keptField_iff]
      obtain hp | hi | ht := hbad
      · exact absurd hp hin
      · rw [if_pos hi]; rfl
      · rw [if_pos ht, ite_self]; rfl
  · obtain ⟨hout, -⟩ | ⟨-, p, hsome, hkept, hgiven⟩ := hperiod
    · exact absurd (.inl hout) hgood
    · refine ⟨p, hkept, hgiven, command_done (c := .setTiming f) htake trivial ?_⟩
      simp only [execute, executeSetTiming, hsome, keptField_iff]
      rw [if_neg (fun h => hgood (.inr (.inl h))), if_neg (fun h => hgood (.inr (.inr h)))]

/-! ### SET_LIMITS -/

/-- A running maximum stays at or below a bound of its start and of every value. -/
theorem foldl_max_le {α : Type} (f : α → Option Nat) {l : List α} {m b : Nat} (hm : m ≤ b)
    (hl : ∀ a ∈ l, ∀ n, f a = some n → n ≤ b) :
    l.foldl (fun m a => match f a with | some n => max m n | none => m) m ≤ b := by
  induction l generalizing m with
  | nil => exact hm
  | cons a l ih =>
    refine ih ?_ fun c hc => hl c (List.mem_cons_of_mem a hc)
    cases hfa : f a with
    | none => simpa only [hfa] using hm
    | some n => simpa only [hfa] using Nat.max_le.2 ⟨hm, hl a List.mem_cons_self n hfa⟩

/-- The highest window end, told by what bounds every window end and is one, or is 0 for an empty index (R14). -/
theorem State.highestEnd_unique {s : State} {highest : Nat}
    (hle : ∀ g ∈ s.index, ∀ t, (s.grant g).body.terms? = some t → t.base + t.length ≤ highest)
    (hmem : (s.index = [] ∧ highest = 0) ∨
      ∃ g ∈ s.index, ∃ t, (s.grant g).body.terms? = some t ∧ t.base + t.length = highest) :
    s.highestEnd = highest := by
  refine le_antisymm ?_ ?_
  · rw [State.highestEnd_eq]
    refine foldl_max_le (fun g => (s.grant g).body.terms?.map Terms.windowEnd) (Nat.zero_le _) fun g hg n hn => ?_
    obtain ⟨t, ht, rfl⟩ := Option.map_eq_some_iff.1 hn
    exact hle g hg t ht
  · obtain ⟨-, rfl⟩ | ⟨g, hg, t, ht, rfl⟩ := hmem
    · exact Nat.zero_le _
    · exact State.le_highestEnd hg ht

/-- A policy code names a policy exactly up to 1 (Table 11-8). -/
theorem Policy.ofCode_toNat (x : BitVec 2) :
    Policy.ofCode x.toNat = if 1 < x.toNat then none else some (if x = 0 then .closed else .opened) := by
  revert x
  decide

/-- The policy that SET_LIMITS sets, if its field is in range (R157). -/
theorem setLimits_policy (f : LimitsFields) (s : State) :
    (if f.keepPolicy then some s.policy else Policy.ofCode f.policy.toNat) =
      if f.keepPolicy = false ∧ 1 < f.policy.toNat then none
      else some (if f.keepPolicy then s.policy else if f.policy = 0 then .closed else .opened) := by
  cases hk : f.keepPolicy with
  | true => rfl
  | false => simpa using Policy.ofCode_toNat f.policy

/-- A number kept or given above a limit: the test as the statement puts it. -/
theorem keptLimit_iff (keep : Bool) (m n : Nat) : (!keep && decide (m < n)) = true ↔ keep = false ∧ m < n := by
  simp

/-- A field that SET_LIMITS is given is out of range (R157). -/
def limitsOutOfRange (f : LimitsFields) : Prop :=
  (f.keepMemTop = false ∧ Config.lineLimit < f.memTop.toNat) ∨ (f.keepPolicy = false ∧ 1 < f.policy.toNat) ∨
    (f.keepQuota = false ∧ Config.maxQuota < f.quota.toNat)

/-- SET_LIMITS with a field out of range is refused BAD_FIELD (R157). -/
theorem executeSetLimits_outOfRange {f : LimitsFields} (h : limitsOutOfRange f) (s : State) :
    executeSetLimits f s = refuseWith .badField 0 0 s := by
  simp only [executeSetLimits, setLimits_policy, keptLimit_iff]
  by_cases hp : f.keepPolicy = false ∧ 1 < f.policy.toNat
  · rw [if_pos hp]
    rfl
  · rw [if_neg hp]
    simp only []
    obtain hm | hp' | hq := h
    · rw [if_pos hm]
      rfl
    · exact absurd hp' hp
    · rw [if_pos hq, ite_self]
      rfl

/-- SET_LIMITS with its fields in range is refused IN_USE or sets the limits (R157). -/
theorem executeSetLimits_inRange {f : LimitsFields} (h : ¬ limitsOutOfRange f) (s : State) :
    executeSetLimits f s =
      if f.keepMemTop = false ∧ f.memTop.toNat < s.highestEnd then
        refuseWith .inUse (BitVec.ofNat 32 s.highestEnd) 0 s
      else
        let memTop := if f.keepMemTop then s.memTop else f.memTop.toNat
        let policy := if f.keepPolicy then s.policy else if f.policy = 0 then .closed else .opened
        let quota := if f.keepQuota then s.defaultQuota else f.quota.toNat
        done (BitVec.ofNat 32 memTop) (place 0 policy.code ||| number 16 10 quota) (BitVec.ofNat 32 s.highestEnd)
          { s with memTop := memTop, policy := policy, defaultQuota := quota } := by
  simp only [executeSetLimits, setLimits_policy, keptLimit_iff, number_word]
  have hm : ¬ (f.keepMemTop = false ∧ Config.lineLimit < f.memTop.toNat) := fun hm => h (.inl hm)
  have hp : ¬ (f.keepPolicy = false ∧ 1 < f.policy.toNat) := fun hp => h (.inr (.inl hp))
  have hq : ¬ (f.keepQuota = false ∧ Config.maxQuota < f.quota.toNat) := fun hq => h (.inr (.inr hq))
  rw [if_neg hp]
  simp only []
  rw [if_neg hm, if_neg hq]

/-- Settles O29: the three fields are tested, then the highest window end, and the settings given replace the ones in
force. -/
theorem setLimitsSetsLimits : Obligations.SetLimitsSetsLimits := by
  intro tag f s highest htake hle hmem bad memTop policy quota
  have hhighest := State.highestEnd_unique hle hmem
  refine ⟨fun hbad => ?_, fun hgood hgiven hlow => ?_, fun hgood hfits => ?_⟩
  · exact command_refused (c := .setLimits f) htake trivial (executeSetLimits_outOfRange hbad s)
  · have heq := executeSetLimits_inRange hgood s
    rw [hhighest, if_pos ⟨hgiven, hlow⟩] at heq
    exact command_refused (c := .setLimits f) htake trivial heq
  · have heq := executeSetLimits_inRange hgood s
    have hfree : ¬ (f.keepMemTop = false ∧ f.memTop.toNat < highest) := by
      rintro ⟨hgiven, hlow⟩
      obtain hkept | hle := hfits
      · rw [hkept] at hgiven; cases hgiven
      · exact absurd hlow (Nat.not_lt.2 hle)
    rw [hhighest, if_neg hfree] at heq
    exact command_done (c := .setLimits f) htake trivial heq

/-! ### ADMIT, BAR and FORGET -/

/-- A slot of a state whose record in one slot is replaced. -/
theorem State.setSlot_record_eq_withRecord (s : State) (sl : SlotNum) (r : Option Station) :
    s.setSlot sl { s.slot sl with record := r } = s.withRecord sl r := by
  rw [State.setSlot, State.withRecord, vector_set_eq_ofFn]
  congr 1
  refine congrArg Vector.ofFn (funext fun k => ?_)
  by_cases h : k = sl
  · rw [if_pos h, if_pos h, h]
  · rw [if_neg h, if_neg h]
    rfl

/-- A record changed in its slot is the record replaced. -/
theorem State.modifyRecord_eq_withRecord {s : State} {sl : SlotNum} {r : Station} (f : Station → Station)
    (hr : (s.slot sl).record = some r) : s.modifyRecord sl f = s.withRecord sl (some (f r)) := by
  rw [State.modifyRecord, hr]
  exact s.setSlot_record_eq_withRecord sl _

/-- A station number that ADMIT and BAR refuse: out of range, or the part's own (R154, R155). -/
theorem notAdmittable_iff (n : StationNum) (s : State) :
    (!stationInRange n || n == s.self) = true ↔ n = 0 ∨ n = 63 ∨ n = s.self := by
  simp [stationInRange, or_iff_not_imp_left]

/-- The lowest of the numbers that pass a test is the one that `find?` finds. -/
theorem find?_finRange_of_lowest {n : Nat} {p : Fin n → Bool} {i : Fin n} (hi : p i = true)
    (hlow : ∀ k < i, p k = false) : (List.finRange n).find? p = some i := by
  rw [List.find?_eq_some_iff_getElem]
  refine ⟨hi, i.val, by simp, by simp, fun j hj => ?_⟩
  simpa using hlow ⟨j, by omega⟩ hj

/-- The lowest VACANT slot (R45). -/
theorem State.vacantSlot_of_lowest {s : State} {sl : SlotNum} (h : (s.slot sl).record = none)
    (hlow : ∀ k < sl, (s.slot k).record ≠ none) : s.vacantSlot = some sl :=
  find?_finRange_of_lowest (by rw [h]; rfl) fun k hk => by
    simpa [Option.isSome_iff_ne_none] using hlow k hk

/-- Without a VACANT slot none is found (R45). -/
theorem State.vacantSlot_none {s : State} (h : ∀ k, (s.slot k).record ≠ none) : s.vacantSlot = none := by
  refine List.find?_eq_none.2 fun k _ => ?_
  simpa using h k

section
variable {n : StationNum} {change : Station → Station} {created : Station} {s : State} {sl : SlotNum}

/-- ADMIT and BAR of a station that has a record change it (R48). -/
theorem admitOrBar_found {r : Station} (hn : s.findSlot n = some sl) (hr : (s.slot sl).record = some r) :
    admitOrBar n change created s =
      done (number 0 4 sl.val ||| place 8 (if r.barred then 2 else 1 : BitVec 2)) 0 0
        (s.withRecord sl (some (change r))) := by
  have hflag : flag 4 false = 0#32 := by decide
  simp only [admitOrBar, hn, hr, s.modifyRecord_eq_withRecord change hr, slotWord, hflag, BitVec.or_zero]
  rfl

/-- ADMIT and BAR of a station without a record create one in the lowest VACANT slot (R45, R48). -/
theorem admitOrBar_created (hn : s.findSlot n = none) (hv : (s.slot sl).record = none)
    (hlow : ∀ k < sl, (s.slot k).record ≠ none) :
    admitOrBar n change created s =
      done (number 0 4 sl.val ||| flag 4 true) 0 0 (s.withRecord sl (some created)) := by
  have hprevious : place 8 (0 : BitVec 2) = 0#32 := by decide
  simp only [admitOrBar, hn, State.vacantSlot_of_lowest hv hlow, slotWord, hprevious, BitVec.or_zero, createStation,
    State.setSlot_record_eq_withRecord]

/-- ADMIT and BAR find no VACANT slot for a new station (R48). -/
theorem admitOrBar_full (hn : s.findSlot n = none) (hfull : ∀ k, (s.slot k).record ≠ none) :
    admitOrBar n change created s = refuseWith .stationFull 0 0 s := by
  simp only [admitOrBar, hn, State.vacantSlot_none hfull]
  rfl

end

/-- ADMIT of a number and quota in range is the change or creation of its record (R154). -/
theorem executeAdmit_inRange {n : StationNum} {quota : BitVec 16} {s : State} (h0 : n ≠ 0) (h63 : n ≠ 63)
    (hself : n ≠ s.self) (hq : quota.toNat ≤ 512) :
    executeAdmit n quota s =
      admitOrBar n (fun r => { r with barred := false, quota := quota.toNat }) (newStation false n quota.toNat) s := by
  have hnot : ¬ (!stationInRange n || n == s.self || decide (Config.maxQuota < quota.toNat)) = true := by
    rw [Bool.or_eq_true, notAdmittable_iff, decide_eq_true_eq]
    rintro ((h | h | h) | h)
    exacts [h0 h, h63 h, hself h, absurd h (Nat.not_lt.2 hq)]
  rw [executeAdmit, if_neg hnot]

/-- BAR of a number in range is the change or creation of its record (R155). -/
theorem executeBar_inRange {n : StationNum} {s : State} (h0 : n ≠ 0) (h63 : n ≠ 63) (hself : n ≠ s.self) :
    executeBar n s = admitOrBar n (fun r => { r with barred := true }) (newStation true n 0) s := by
  have hnot : ¬ (!stationInRange n || n == s.self) = true := by
    rw [notAdmittable_iff]
    rintro (h | h | h)
    exacts [h0 h, h63 h, hself h]
  rw [executeBar, if_neg hnot]

/-- Settles O26: the fields are tested, and then the station's record is changed or created. -/
theorem admitAndBarSetRecord : Obligations.AdmitAndBarSetRecord := by
  intro tag n quota s htake
  refine ⟨fun hbad => ?_, fun hbad => ?_, fun h0 h63 hself hquota => ?_⟩
  · refine command_refused (c := .admitStation n quota) htake trivial ?_
    refine if_pos ?_
    rw [Bool.or_eq_true, notAdmittable_iff, decide_eq_true_eq, or_assoc, or_assoc]
    exact hbad
  · refine command_refused (c := .bar n) htake trivial ?_
    refine if_pos ?_
    rw [notAdmittable_iff]
    exact hbad
  · have hadmit := executeAdmit_inRange h0 h63 hself hquota
    have hbar := executeBar_inRange h0 h63 hself
    refine ⟨fun sl r hn hr => ⟨?_, ?_⟩, fun sl hn hv hlow => ⟨?_, ?_⟩, fun hn hfull => ⟨?_, ?_⟩⟩
    · exact command_done (c := .admitStation n quota) htake trivial (hadmit.trans (admitOrBar_found hn hr))
    · exact command_done (c := .bar n) htake trivial (hbar.trans (admitOrBar_found hn hr))
    · exact command_done (c := .admitStation n quota) htake trivial (hadmit.trans (admitOrBar_created hn hv hlow))
    · exact command_done (c := .bar n) htake trivial (hbar.trans (admitOrBar_created hn hv hlow))
    · exact command_refused (c := .admitStation n quota) htake trivial (hadmit.trans (admitOrBar_full hn hfull))
    · exact command_refused (c := .bar n) htake trivial (hbar.trans (admitOrBar_full hn hfull))

/-- A station number is in range (00_scope, Stations). -/
theorem stationInRange_iff (n : StationNum) : stationInRange n = true ↔ n ≠ 0 ∧ n ≠ 63 := by
  simp [stationInRange]

/-- Settles O27: the tests of FORGET in their order. -/
theorem forgetVacatesSlot : Obligations.ForgetVacatesSlot := by
  intro tag n s htake
  refine ⟨fun hbad => ?_, fun h0 h63 hn => ?_, fun sl r h0 h63 hn hr => ⟨fun hholds => ?_, fun hheld hpending => ?_⟩⟩
  · refine command_refused (c := .forget n) htake trivial (if_neg ?_)
    rw [stationInRange_iff]
    rintro ⟨h0, h63⟩
    exact hbad.elim h0 h63
  · refine command_refused (c := .forget n) htake trivial ?_
    simp only [execute, executeForget, (stationInRange_iff n).2 ⟨h0, h63⟩, hn, if_true]
    rfl
  · refine command_refused (c := .forget n) htake trivial ?_
    rw [← Option.isSome_iff_ne_none] at hholds
    simp only [execute, executeForget, (stationInRange_iff n).2 ⟨h0, h63⟩, hn, hr, if_true, if_pos hholds, number_word]
    rfl
  · refine command_done (c := .forget n) htake trivial ?_
    have hnot : ¬ (0 < r.held ∨ r.pending.isSome = true) := by simp [hheld, hpending]
    simp only [execute, executeForget, (stationInRange_iff n).2 ⟨h0, h63⟩, hn, hr, if_true, if_neg hnot,
      State.setSlot_record_eq_withRecord]

end Sys2Proof.Machine
end


section
/-! PROOFS. The queries (R151 to R153): each answers with the fields of Table 11-9, which are read back from its result
words bit field by bit field, and changes nothing. -/

namespace Sys2Proof.Machine

/-! ### QUERY_LINE -/

/-- QUERY_LINE reports the entry behind the number to skip, if there is one (R152). -/
theorem executeQueryLine_inRange {line : Word} {skip : BitVec 16} {s : State} (hl : line.toNat < 268435456)
    (hk : skip.toNat < 512) :
    executeQueryLine line skip s =
      match (s.covering line.toNat)[skip.toNat]? with
      | some g =>
        done (BitVec.ofNat 32 (s.covering line.toNat).length) (refWord g (s.grant g).gen)
          (place 0 (s.grant g).body.code ||| flag 31 true) s
      | none => done (BitVec.ofNat 32 (s.covering line.toNat).length) 0 0 s := by
  have hnot : ¬ (Config.lineLimit ≤ line.toNat ∨ 512 ≤ skip.toNat) := by
    rintro (h | h)
    exacts [absurd hl (Nat.not_lt.2 h), absurd hk (Nat.not_lt.2 h)]
  rw [executeQueryLine, if_neg hnot]
  simp only [number_word] <;> rfl

/-- Settles O25: the line and the number are tested, and the entry is looked up among the covering ones. -/
theorem queryLineReports : Obligations.QueryLineReports := by
  intro tag line skip s htake
  refine ⟨fun hbad => ?_, fun hl hk => ?_⟩
  · exact command_refused (c := .queryLine line skip) htake trivial (if_pos hbad)
  · intro covering
    have hcovering : s.covering line.toNat = covering := by
      refine List.filter_congr fun g _ => ?_
      cases (s.grant g).body.terms? with
      | none => rfl
      | some t => exact (Bool.decide_and _ _).symm
    have heq := executeQueryLine_inRange (s := s) hl hk
    rw [hcovering] at heq
    refine ⟨fun g hg => ?_, fun hbehind => ?_⟩
    · rw [hg] at heq
      exact command_done (c := .queryLine line skip) htake trivial heq
    · rw [List.getElem?_eq_none hbehind] at heq
      exact command_done (c := .queryLine line skip) htake trivial heq

/-! ### The fields of a grant in the words of QUERY_GRANT (Table 11-9) -/

/-- A field of a placed number is read back. -/
theorem bits_number_self (lo width v : Nat) (h : lo + width ≤ 32) :
    bits (number lo width v) lo width = BitVec.ofNat width v :=
  bits_place_self lo _ h

/-- A field read outside a placed number is 0. -/
theorem bits_number_disjoint (l width v lo len : Nat) (h : l + width ≤ lo ∨ lo + len ≤ l) :
    bits (number l width v) lo len = 0 :=
  bits_place_disjoint l _ lo len h

/-- A bit outside a placed number is 0. -/
theorem getLsbD_number_disjoint (l width v i : Nat) (h : l + width ≤ i ∨ i < l) :
    (number l width v).getLsbD i = false :=
  getLsbD_place_disjoint l _ i h

/-- A flag is read back. -/
theorem getLsbD_flag_self (i : Nat) (b : Bool) (h : i < 32) : (flag i b).getLsbD i = b := by
  rw [getLsbD_flag]
  simp [h]

/-- Another flag is 0 in a flag's place. -/
theorem getLsbD_flag_other (l : Nat) (b : Bool) (i : Nat) (h : l ≠ i) : (flag l b).getLsbD i = false := by
  rw [getLsbD_flag]
  simp [h]

/-- A field of a word where nothing else stands. -/
theorem or_zero_field {n : Nat} (x : BitVec n) : x ||| 0 = x := BitVec.or_zero

/-- A field of a word where nothing stood before. -/
theorem zero_or_field {n : Nat} (x : BitVec n) : 0 ||| x = x := BitVec.zero_or

/-- A holder is SHARED as its flag says. -/
theorem Holder.isShared_eq (h : Holder) : h.isShared = decide (h = .shared) := by
  cases h <;> simp [Holder.isShared]

/-- Part 0 begins with state, generation and in-flight count. -/
theorem grantPart0_head (x : Grant) :
    bits (grantPart0 x).1 0 2 = x.body.code ∧ bits (grantPart0 x).1 8 8 = x.gen ∧
      bits (grantPart0 x).1 16 4 = BitVec.ofNat 4 x.inFlight := by
  cases ht : x.body.terms? with
  | none | some t =>
    simp only [grantPart0, ht]
    refine ⟨?_, ?_, ?_⟩ <;>
      simp (disch := decide) only [bits_or, bits_place_self, bits_place_disjoint, bits_number_self,
        bits_number_disjoint, bits_flag_disjoint, or_zero_field, zero_or_field]

/-- Part 0 of an entry without terms is 0 beyond that. -/
theorem grantPart0_absent {x : Grant} (h : x.body.terms? = none) :
    bits (grantPart0 x).1 20 12 = 0 ∧ (grantPart0 x).2.1 = 0 ∧ (grantPart0 x).2.2 = 0 := by
  simp only [grantPart0, h]
  refine ⟨?_, trivial, trivial⟩
  simp (disch := decide) only [bits_or, bits_place_disjoint, bits_number_disjoint, or_zero_field]

/-- Part 0 of an entry with terms holds its holder, rights and window. -/
theorem grantPart0_present {x : Grant} {t : Terms} (h : x.body.terms? = some t) :
    bits (grantPart0 x).1 20 6 = t.holder.stationBits ∧ (grantPart0 x).1.getLsbD 26 = decide (t.holder = .shared) ∧
      bits (grantPart0 x).1 27 2 = t.rights.code ∧ (grantPart0 x).2.1 = BitVec.ofNat 32 t.base ∧
      (grantPart0 x).2.2 = BitVec.ofNat 32 t.length := by
  simp only [grantPart0, h, number_word, ← Holder.isShared_eq]
  refine ⟨?_, ?_, ?_, trivial, trivial⟩
  · simp (disch := decide) only [bits_or, bits_place_self, bits_place_disjoint, bits_number_disjoint,
      bits_flag_disjoint, or_zero_field, zero_or_field]
  · simp (disch := decide) only [BitVec.getLsbD_or, getLsbD_place_disjoint, getLsbD_number_disjoint,
      getLsbD_flag_self, Bool.or_false, Bool.false_or]
  · simp (disch := decide) only [bits_or, bits_place_self, bits_place_disjoint, bits_number_disjoint,
      bits_flag_disjoint, or_zero_field, zero_or_field]

/-- Part 1 begins with state and generation. -/
theorem grantPart1_head (x : Grant) :
    bits (grantPart1 x).1 0 2 = x.body.code ∧ bits (grantPart1 x).1 8 8 = x.gen := by
  cases hb : x.body with
  | free | live t | closing t c =>
    simp only [grantPart1, hb]
    refine ⟨?_, ?_⟩ <;>
      simp (disch := decide) only [bits_or, bits_place_self, bits_place_disjoint, bits_number_disjoint,
        bits_flag_disjoint, or_zero_field, zero_or_field]

/-- Part 1 of a FREE entry is 0 beyond that. -/
theorem grantPart1_free {x : Grant} (h : x.body = .free) :
    bits (grantPart1 x).1 16 16 = 0 ∧ (grantPart1 x).2.1 = 0 ∧ (grantPart1 x).2.2 = 0 := by
  simp only [grantPart1, h]
  refine ⟨?_, trivial, trivial⟩
  simp (disch := decide) only [bits_or, bits_place_disjoint, or_zero_field]

/-- Part 1 of an entry with terms holds its lifetime, renewal and notify fields. -/
theorem grantPart1_terms {x : Grant} {t : Terms} (h : x.body.terms? = some t) :
    (grantPart1 x).1.getLsbD 16 = t.remaining.isSome ∧ (grantPart1 x).1.getLsbD 17 = t.renewAmount.isSome ∧
      bits (grantPart1 x).1 18 4 = BitVec.ofNat 4 t.credits ∧ (grantPart1 x).1.getLsbD 22 = t.notify ∧
      bits (grantPart1 x).2.1 0 16 = BitVec.ofNat 16 (t.remaining.getD 0) ∧
      bits (grantPart1 x).2.1 16 16 = BitVec.ofNat 16 (t.renewAmount.getD 0) := by
  cases hb : x.body with
  | free => rw [hb] at h; cases h
  | live u | closing u c =>
    rw [hb] at h
    obtain rfl : u = t := Option.some.inj h
    simp only [grantPart1, hb, timesWord]
    refine ⟨?_, ?_, ?_, ?_, ?_, ?_⟩ <;>
      simp (disch := decide) only [bits_or, bits_place_disjoint, bits_number_self, bits_number_disjoint,
        bits_flag_disjoint, BitVec.getLsbD_or, getLsbD_place_disjoint, getLsbD_number_disjoint, getLsbD_flag_self,
        getLsbD_flag_other, or_zero_field, zero_or_field, Bool.or_false, Bool.false_or]

/-- Part 1 of a LIVE entry has no closing fields. -/
theorem grantPart1_live {x : Grant} {t : Terms} (h : x.body = .live t) :
    bits (grantPart1 x).1 23 9 = 0 ∧ (grantPart1 x).2.2 = 0 := by
  simp only [grantPart1, h]
  refine ⟨?_, trivial⟩
  simp (disch := decide) only [bits_or, bits_place_disjoint, bits_number_disjoint, bits_flag_disjoint, or_zero_field]

/-- Part 1 of a CLOSING entry holds its cause, notice state and retire wait. -/
theorem grantPart1_closing {x : Grant} {t : Terms} {c : Closing} (h : x.body = .closing t c) :
    bits (grantPart1 x).1 23 3 = c.cause.code.setWidth 3 ∧ bits (grantPart1 x).1 26 3 = c.notice.code.setWidth 3 ∧
      (grantPart1 x).1.getLsbD 29 = c.retireWait ∧ (grantPart1 x).2.2 = c.notice.countsWord := by
  simp only [grantPart1, h]
  refine ⟨?_, ?_, ?_, trivial⟩ <;>
    simp (disch := decide) only [bits_or, bits_place_disjoint, bits_number_self, bits_number_disjoint,
      bits_flag_disjoint, BitVec.getLsbD_or, getLsbD_place_disjoint, getLsbD_number_disjoint, getLsbD_flag_self,
      getLsbD_flag_other, or_zero_field, zero_or_field, Bool.or_false, Bool.false_or, BitVec.ofNat_toNat]

/-- The counts of a head in AWAIT_ACK. -/
theorem countsWord_awaitAck (tries ticks : Nat) :
    bits (Notice.awaitAck tries ticks).countsWord 0 3 = BitVec.ofNat 3 tries ∧
      bits (Notice.awaitAck tries ticks).countsWord 8 4 = BitVec.ofNat 4 ticks := by
  constructor <;>
    simp (disch := decide) only [Notice.countsWord, bits_or, bits_number_self, bits_number_disjoint, or_zero_field,
      zero_or_field]

/-- A notice state other than AWAIT_ACK has no counts. -/
theorem countsWord_other {n : Notice} (h : ∀ tries ticks, n ≠ .awaitAck tries ticks) : n.countsWord = 0 := by
  cases n with
  | awaitAck tries ticks => exact absurd rfl (h tries ticks)
  | _ => rfl

/-- QUERY_GRANT of an entry, part 0 (R151). -/
theorem executeQueryGrant_part0 {grant : BitVec 16} {s : State} {g : GrantNum} (hg : grant.toNat = g.val) :
    executeQueryGrant grant 0 s =
      done (grantPart0 (s.grant g)).1 (grantPart0 (s.grant g)).2.1 (grantPart0 (s.grant g)).2.2 s := by
  simp only [executeQueryGrant, hg, g.isLt, dite_true, if_true]

/-- QUERY_GRANT of an entry, part 1 (R151). -/
theorem executeQueryGrant_part1 {grant : BitVec 16} {s : State} {g : GrantNum} (hg : grant.toNat = g.val) :
    executeQueryGrant grant 1 s =
      done (grantPart1 (s.grant g)).1 (grantPart1 (s.grant g)).2.1 (grantPart1 (s.grant g)).2.2 s := by
  have hpart : ¬ (1 : BitVec 2) = 0 := by decide
  simp only [executeQueryGrant, hg, g.isLt, dite_true, if_neg hpart, if_true]

/-- Settles O24: the reference and the part are tested, and the words read back field by field. -/
theorem queryGrantReports : Obligations.QueryGrantReports := by
  intro tag grant part s htake
  refine ⟨fun hout => ?_, fun hin h0 h1 => ?_, fun g hg hpart => ?_⟩
  · exact command_refused (c := .queryGrant grant part) htake trivial (dif_neg (Nat.not_lt.2 hout))
  · refine command_refused (c := .queryGrant grant part) htake trivial ?_
    simp only [execute, executeQueryGrant, hin, dite_true, if_neg h0, if_neg h1]
    rfl
  · obtain rfl | rfl := hpart
    · obtain ⟨hcode, hgen, hflight⟩ := grantPart0_head (s.grant g)
      refine ⟨_, _, _, command_done (c := .queryGrant grant 0) htake trivial (executeQueryGrant_part0 hg), hcode, hgen,
        fun _ => ⟨hflight, grantPart0_absent, fun t => grantPart0_present⟩, fun h => absurd h (by decide)⟩
    · obtain ⟨hcode, hgen⟩ := grantPart1_head (s.grant g)
      refine ⟨_, _, _, command_done (c := .queryGrant grant 1) htake trivial (executeQueryGrant_part1 hg), hcode, hgen,
        fun h => absurd h (by decide), fun _ => ⟨grantPart1_free, fun t => grantPart1_terms, fun t => grantPart1_live,
          fun t c hb => ?_⟩⟩
      obtain ⟨hcause, hnotice, hwait, hcounts⟩ := grantPart1_closing hb
      refine ⟨hcause, hnotice, hwait, fun tries ticks hn => ?_, fun hn => ?_⟩
      · rw [hcounts, hn]
        exact countsWord_awaitAck tries ticks
      · rw [hcounts]
        exact countsWord_other hn

/-! ### The fields of a record in the words of QUERY_STATION (Table 11-9) -/

/-- A byte or number of a record that may be absent, as the words carry it. -/
theorem ofNat_getD_toNat {α : Type} {n : Nat} (o : Option α) (f : α → BitVec n) :
    BitVec.ofNat n ((o.map (fun a => (f a).toNat)).getD 0) = (o.map f).getD 0 := by
  cases o with
  | none => rfl
  | some a => exact (BitVec.ofNat_toNat n (f a)).trans (BitVec.setWidth_eq _)

/-- Part 0 begins with slot and state, sequence number, pending mark and quota. -/
theorem stationPart0_word1 (sl : SlotNum) (r : Station) :
    bits (stationPart0 sl r).1 0 4 = BitVec.ofNat 4 sl.val ∧ bits (stationPart0 sl r).1 4 2 = r.stateCode ∧
      bits (stationPart0 sl r).1 8 8 = (r.session.map (fun e => e.last)).getD 0 ∧
      (stationPart0 sl r).1.getLsbD 16 = r.session.isSome ∧
      bits (stationPart0 sl r).1 17 3 = BitVec.ofNat 3 ((r.pending.map Fin.val).getD 0) ∧
      (stationPart0 sl r).1.getLsbD 20 = r.pending.isSome ∧
      bits (stationPart0 sl r).1 22 10 = BitVec.ofNat 10 r.quota := by
  rw [← ofNat_getD_toNat]
  simp only [stationPart0]
  refine ⟨?_, ?_, ?_, ?_, ?_, ?_, ?_⟩ <;>
    simp (disch := decide) only [bits_or, bits_place_self, bits_place_disjoint, bits_number_self, bits_number_disjoint,
      bits_flag_disjoint, BitVec.getLsbD_or, getLsbD_place_disjoint, getLsbD_number_disjoint, getLsbD_flag_self,
      getLsbD_flag_other, or_zero_field, zero_or_field, Bool.or_false, Bool.false_or]
  rfl

/-- Part 0 goes on with epoch and held count. -/
theorem stationPart0_word2 (sl : SlotNum) (r : Station) :
    bits (stationPart0 sl r).2.1 0 16 = (r.session.map (fun e => e.epoch)).getD 0 ∧
      bits (stationPart0 sl r).2.1 16 10 = BitVec.ofNat 10 r.held := by
  rw [← ofNat_getD_toNat]
  simp only [stationPart0]
  refine ⟨?_, ?_⟩ <;>
    simp (disch := decide) only [bits_or, bits_number_self, bits_number_disjoint, or_zero_field, zero_or_field]

/-- Part 0 of a record without a reply cache is 0 beyond that. -/
theorem stationPart0_uncached (sl : SlotNum) {r : Station} (h : r.cache = none) :
    bits (stationPart0 sl r).2.1 26 6 = 0 ∧ (stationPart0 sl r).2.2 = 0 := by
  simp only [stationPart0, h]
  refine ⟨?_, by decide⟩
  have hstatus : number 26 5 0 = 0 := by decide
  simp (disch := decide) only [Option.map_none, Option.getD_none, hstatus, bits_or, bits_number_disjoint, or_zero_field]

/-- Part 0 of a record with a reply cache holds its four fields. -/
theorem stationPart0_cached (sl : SlotNum) {r : Station} {c : Cache} (h : r.cache = some c) :
    bits (stationPart0 sl r).2.1 26 5 = c.status.code.setWidth 5 ∧
      bits (stationPart0 sl r).2.2 0 3 = c.kind.code.setWidth 3 ∧ bits (stationPart0 sl r).2.2 3 8 = c.seq ∧
      bits (stationPart0 sl r).2.2 11 20 = c.value.setWidth 20 := by
  simp only [stationPart0, h, Option.map_some, Option.getD_some]
  refine ⟨?_, ?_, ?_, ?_⟩ <;>
    simp (disch := decide) only [bits_or, bits_number_self, bits_number_disjoint, or_zero_field, zero_or_field,
      BitVec.ofNat_toNat, BitVec.setWidth_eq]

/-- Part 1 begins with slot and state and the two waiting events. -/
theorem stationPart1_head (sl : SlotNum) (r : Station) :
    bits (stationPart1 sl r).1 0 4 = BitVec.ofNat 4 sl.val ∧ bits (stationPart1 sl r).1 4 2 = r.stateCode ∧
      (stationPart1 sl r).1.getLsbD 8 = r.admittedWaiting ∧
      (stationPart1 sl r).1.getLsbD 9 = r.restartWaiting.isSome := by
  cases hw : r.restartWaiting with
  | none | some w =>
    simp only [stationPart1, hw]
    refine ⟨?_, ?_, ?_, ?_⟩ <;>
      simp (disch := decide) only [bits_or, bits_place_self, bits_place_disjoint, bits_number_self,
        bits_number_disjoint, bits_flag_disjoint, BitVec.getLsbD_or, getLsbD_place_disjoint, getLsbD_number_disjoint,
        getLsbD_flag_self, getLsbD_flag_other, or_zero_field, zero_or_field, Bool.or_false, Bool.false_or,
        Option.isSome_none, Option.isSome_some]

/-- Part 1 of a record with no waiting restart is 0 beyond that. -/
theorem stationPart1_absent (sl : SlotNum) {r : Station} (h : r.restartWaiting = none) :
    bits (stationPart1 sl r).1 16 8 = 0 ∧ (stationPart1 sl r).2.1 = 0 ∧ (stationPart1 sl r).2.2 = 0 := by
  simp only [stationPart1, h]
  refine ⟨?_, trivial, trivial⟩
  simp (disch := decide) only [bits_or, bits_place_disjoint, bits_number_disjoint, bits_flag_disjoint, or_zero_field]

/-- Part 1 of a record with a waiting restart holds its three fields. -/
theorem stationPart1_waiting (sl : SlotNum) {r : Station} {w : RestartWait} (h : r.restartWaiting = some w) :
    bits (stationPart1 sl r).1 16 8 = BitVec.ofNat 8 w.merged ∧ (stationPart1 sl r).2.1 = w.epoch.setWidth 32 ∧
      (stationPart1 sl r).2.2 = BitVec.ofNat 32 w.swept := by
  simp only [stationPart1, h, number_word]
  refine ⟨?_, ?_, trivial⟩
  · simp (disch := decide) only [bits_or, bits_place_disjoint, bits_number_self, bits_number_disjoint,
      bits_flag_disjoint, or_zero_field, zero_or_field]
  · exact BitVec.shiftLeft_zero _

section
variable {n : StationNum} {part : BitVec 2} {s : State}

/-- QUERY_STATION of a number and a part in range looks the station up (R153). -/
theorem queryStation_inRange (h0 : n ≠ 0) (h63 : n ≠ 63) (hp : part = 0 ∨ part = 1) :
    ¬ (!stationInRange n || (part != 0 && part != 1)) = true := by
  rw [(stationInRange_iff n).2 ⟨h0, h63⟩]
  obtain rfl | rfl := hp <;> decide

/-- QUERY_STATION of a station with a record reports the part asked for (R63, R153). -/
theorem executeQueryStation_found (h0 : n ≠ 0) (h63 : n ≠ 63) (hp : part = 0 ∨ part = 1) {sl : SlotNum} {r : Station}
    (hn : s.findSlot n = some sl) (hr : (s.slot sl).record = some r) :
    executeQueryStation n part s =
      let p := if part = 0 then stationPart0 sl r else stationPart1 sl r
      done p.1 p.2.1 p.2.2 s := by
  simp only [executeQueryStation, if_neg (queryStation_inRange h0 h63 hp), hn, hr]

end

/-- Settles O28: the number and the part are tested, and the words read back field by field. -/
theorem queryStationReports : Obligations.QueryStationReports := by
  intro tag n part s htake
  refine ⟨fun hbad => ?_, fun h0 h63 hp hn => ?_, fun sl r h0 h63 hp hn hr => ?_⟩
  · refine command_refused (c := .queryStation n part) htake trivial (if_pos ?_)
    rw [Bool.or_eq_true, Bool.not_eq_true', Bool.and_eq_true, bne_iff_ne, bne_iff_ne, ← Bool.not_eq_true,
      stationInRange_iff, not_and_or, not_not, not_not, or_assoc]
    exact hbad
  · refine command_refused (c := .queryStation n part) htake trivial ?_
    simp only [execute, executeQueryStation, if_neg (queryStation_inRange h0 h63 hp), hn]
    rfl
  · have heq := executeQueryStation_found h0 h63 hp hn hr
    obtain rfl | rfl := hp
    · obtain ⟨hslot, hstate, hlast, hsession, hpending, hmark, hquota⟩ := stationPart0_word1 sl r
      obtain ⟨hepoch, hheld⟩ := stationPart0_word2 sl r
      exact ⟨_, _, _, command_done (c := .queryStation n 0) htake trivial heq, hslot, hstate,
        fun _ => ⟨hlast, hsession, hpending, hmark, hquota, hepoch, hheld, stationPart0_uncached sl,
          fun c => stationPart0_cached sl⟩, fun h => absurd h (by decide)⟩
    · obtain ⟨hslot, hstate, hadmitted, hrestart⟩ := stationPart1_head sl r
      exact ⟨_, _, _, command_done (c := .queryStation n 1) htake trivial heq, hslot, hstate,
        fun h => absurd h (by decide),
        fun _ => ⟨hadmitted, hrestart, stationPart1_absent sl, fun w => stationPart1_waiting sl⟩⟩

end Sys2Proof.Machine
end


section
/-! PROOFS. ISSUE and AMEND (R19, R20, R147, R148): the first check that fails refuses the command, and one that passes
every check changes the grant table as described. -/

namespace Sys2Proof.Machine

/-! ### Checks in order -/

/-- The first failure of a list of checks, check by check. -/
theorem firstFailure_cons {α : Type} (c : Bool × α) (checks : List (Bool × α)) :
    firstFailure (c :: checks) = if c.1 = true then some c.2 else firstFailure checks := by
  cases h : c.1 <;> simp [firstFailure, h]

theorem firstFailure_nil {α : Type} : firstFailure ([] : List (Bool × α)) = none := rfl

/-! ### Changes of a station record, slot by slot -/

/-- A record changed in its slot, as a new table. -/
theorem State.modifyRecord_eq_ofFn (s : State) (sl : SlotNum) (f : Station → Station) :
    s.modifyRecord sl f =
      { s with
        slots := Vector.ofFn (fun k : SlotNum =>
          if k = sl then { s.slot k with record := (s.slot k).record.map f } else s.slot k) } := by
  rw [State.modifyRecord, State.setSlot, vector_set_eq_ofFn]
  congr 1
  refine congrArg Vector.ofFn (funext fun k => ?_)
  by_cases h : k = sl
  · rw [if_pos h, if_pos h, h]
  · rw [if_neg h, if_neg h]
    rfl

/-- The slot whose record names a holder; none for SHARED (R46). -/
def State.slotOf (s : State) : Holder → Option SlotNum
  | .shared => none
  | .station n => s.findSlot n

/-- A table made anew from the slots it has is the same. -/
theorem State.ofFn_slot (s : State) : Vector.ofFn s.slot = s.slots := by
  ext i hi
  simp [State.slot]

/-- A held count changes in the record of its holder (R21). -/
theorem changeHeld_eq (f : Nat → Nat) (h : Holder) (s : State) :
    changeHeld f h s =
      { s with
        slots := Vector.ofFn (fun k : SlotNum =>
          if s.slotOf h = some k then
            { s.slot k with record := (s.slot k).record.map (fun r => { r with held := f r.held }) }
          else s.slot k) } := by
  have hsame : { s with slots := Vector.ofFn s.slot } = s := by rw [State.ofFn_slot]
  cases h with
  | shared => exact hsame.symm
  | station n =>
    cases hn : s.findSlot n with
    | none =>
      simp only [changeHeld, State.slotOf, hn, reduceCtorEq, if_false]
      exact hsame.symm
    | some sl => simp only [changeHeld, State.slotOf, hn, State.modifyRecord_eq_ofFn, Option.some.injEq, eq_comm]

/-! ### ISSUE refused -/

/-- ISSUE with a field out of range is refused BAD_FIELD (R19, check 1). -/
theorem executeIssue_badField {f : IssueFields} (h : issueBadField f = true) (s : State) :
    executeIssue f s = refuseWith .badField 0 0 s := by
  unfold executeIssue
  split
  · rfl
  · simp only [h, if_true]
    rfl

/-- ISSUE with its fields in range, its terms as the statements put them (R19, R20). -/
theorem executeIssue_inRange {f : IssueFields} (h : ¬ issueBadField f = true) (s : State) :
    executeIssue f s =
      if s.memTop < f.base.toNat + f.length.toNat then refuseWith .badWindow 0 0 s
      else
        match issueHolderRefusal s (issuedTerms f).holder with
        | some (status, w1, w2) => refuseWith status w1 w2 s
        | none =>
          match s.firstConflict none (issuedTerms f) with
          | some g => refuseWith .conflict (refWord g (s.grant g).gen) 0 s
          | none =>
            match s.freeList with
            | [] => refuseWith .tableFull 0 0 s
            | g :: rest =>
              done (refWord g (s.grant g).gen) (number 0 32 rest.length) 0 (allocate g rest (issuedTerms f) s) := by
  have hflags : ¬ (f.read = false ∧ f.write = false) := by
    rintro ⟨hr, hw⟩
    simp [issueBadField, hr, hw] at h
  obtain ⟨rights, hrights, hterms⟩ := ofFlags_issueTerms hflags
  simp only [executeIssue, hrights, hterms, if_neg h] <;> rfl

/-- The search for the holder's record as checks (R19, checks 3 and 4). -/
theorem issueHolderRefusal_eq (f : IssueFields) (s : State) :
    issueHolderRefusal s (issuedTerms f).holder =
      if (!f.shared && (s.stationRecord f.station).elim true (fun x => x.barred)) = true then some (.noStation, 0, 0)
      else if (!f.shared && (s.stationRecord f.station).elim true (fun x => decide (x.quota ≤ x.held))) = true then
        some (.quota, BitVec.ofNat 32 (((s.stationRecord f.station).map (fun x => x.held)).getD 0),
          BitVec.ofNat 32 (((s.stationRecord f.station).map (fun x => x.quota)).getD 0))
      else none := by
  cases hs : f.shared with
  | true => simp only [issuedTerms, hs, if_true, issueHolderRefusal, Bool.not_true, Bool.false_and,
      Bool.false_eq_true, if_false]
  | false =>
    simp only [issuedTerms, hs, Bool.false_eq_true, if_false, issueHolderRefusal, Bool.not_false, Bool.true_and,
      State.stationRecord]
    cases (s.findSlot f.station).bind (fun sl => (s.slot sl).record) with
    | none => rfl
    | some r => simp only [Option.elim_some, decide_eq_true_eq, number_word, Option.map_some, Option.getD_some]

/-- A conflict that refuses a command, with the first conflicting reference (R17, R143). -/
theorem refuse_firstConflict {s : State} {skip : Option GrantNum} {t : Terms} (h : s.conflicting skip t ≠ []) :
    ∃ g, s.firstConflict skip t = some g ∧
      s.conflictAnswer (s.conflicting skip t) = (.conflict, refWord g (s.grant g).gen, 0) := by
  obtain ⟨g, rest, hg⟩ := List.exists_cons_of_ne_nil h
  exact ⟨g, by rw [State.firstConflict_eq_head?, hg]; rfl, by rw [State.conflictAnswer, hg]; rfl⟩

/-- Without a conflicting entry there is no first one. -/
theorem firstConflict_none {s : State} {skip : Option GrantNum} {t : Terms} (h : s.conflicting skip t = []) :
    s.firstConflict skip t = none := by
  rw [State.firstConflict_eq_head?, h]
  rfl

/-- ISSUE refused by the first of its checks that fails (R19). -/
theorem executeIssue_refused {f : IssueFields} {s : State} {status : CmdStatus} {w1 w2 : Word}
    (h : firstFailure (s.issueChecks f) = some (status, w1, w2)) : executeIssue f s = refuseWith status w1 w2 s := by
  simp only [State.issueChecks, firstFailure_cons, firstFailure_nil, decide_eq_true_eq, ← issueBadField_iff] at h
  by_cases hfield : issueBadField f = true
  · rw [if_pos hfield] at h
    cases h
    exact executeIssue_badField hfield s
  rw [if_neg hfield] at h
  rw [executeIssue_inRange hfield]
  by_cases hwindow : s.memTop < f.base.toNat + f.length.toNat
  · rw [if_pos hwindow] at h ⊢
    cases h
    rfl
  rw [if_neg hwindow] at h ⊢
  rw [issueHolderRefusal_eq]
  by_cases hstation : (!f.shared && (s.stationRecord f.station).elim true (fun x => x.barred)) = true
  · rw [if_pos hstation] at h ⊢
    cases h
    rfl
  rw [if_neg hstation] at h ⊢
  by_cases hquota : (!f.shared && (s.stationRecord f.station).elim true (fun x => decide (x.quota ≤ x.held))) = true
  · rw [if_pos hquota] at h ⊢
    cases h
    rfl
  rw [if_neg hquota] at h ⊢
  by_cases hconflict : s.conflicting none (issuedTerms f) = []
  · rw [if_neg (by simp [hconflict])] at h
    simp only [firstConflict_none hconflict]
    cases hl : s.freeList with
    | nil =>
      rw [if_pos (by rw [hl]; rfl)] at h
      cases h
      rfl
    | cons g rest => simp [hl] at h
  · obtain ⟨g, hfirst, hanswer⟩ := refuse_firstConflict hconflict
    rw [if_pos (by simpa using hconflict), hanswer] at h
    cases h
    simp only [hfirst]

/-- Settles O18: the model makes the checks in the order of the statement's list. -/
theorem issueRefusedByFirstFailingCheck : Obligations.IssueRefusedByFirstFailingCheck := by
  intro tag f s status w1 w2 htake h
  exact command_refused (c := .issue f) htake trivial (executeIssue_refused h)

/-! ### ISSUE carried out -/

/-- The holder that ISSUE names stands in the slot that the statement names (R46). -/
theorem slotOf_issuedTerms (f : IssueFields) (s : State) (k : SlotNum) :
    s.slotOf (issuedTerms f).holder = some k ↔ f.shared = false ∧ s.findSlot f.station = some k := by
  cases hs : f.shared <;> simp [issuedTerms, hs, State.slotOf]

/-- An allocation, as a new table (R20). -/
theorem allocate_eq (g : GrantNum) (rest : List GrantNum) (t : Terms) (s : State) :
    allocate g rest t s =
      ({ s with
        freeList := rest
        index := s.insertIndex t.base g s.index
        slots := Vector.ofFn (fun sl : SlotNum =>
          if s.slotOf t.holder = some sl then
            { s.slot sl with record := (s.slot sl).record.map (fun r => { r with held := r.held + 1 }) }
          else s.slot sl) } : State).withGrant g { gen := (s.grant g).gen, inFlight := 0, body := .live t } := by
  rw [← State.setGrant_eq_withGrant, allocate, changeHeld_eq]
  rfl

/-- Settles O19: the free list's head is allocated, at its place in the sorted index. -/
theorem issueAllocates : Obligations.IssueAllocates := by
  intro tag f s g rest htake hpart hsorted hchecks hlist
  have hg : g ∉ s.index := fun hmem => by
    have hfree := (hpart.mem_freeList g).1 (by rw [hlist]; exact List.mem_cons_self)
    rw [((hpart.2.2 g).2.1 hmem)] at hfree
    cases hfree
  obtain ⟨before, after, hindex, hinsert, hbefore, hafter⟩ :=
    insertIndex_place hpart hsorted (base := f.base.toNat) hg
  refine ⟨before, after, hindex, hbefore, hafter, ?_⟩
  have hinsert' : s.insertIndex (issuedTerms f).base g s.index = before ++ g :: after := hinsert
  rw [exec_issue_passes htake hchecks hlist, allocate_eq, hinsert', number_word]
  simp only [slotOf_issuedTerms]
  rfl

/-! ### References -/

/-- What a command does with a reference to a LIVE entry (R8). -/
theorem onLive_live {s : State} {grant : BitVec 16} {gen : BitVec 8} {g : GrantNum} {t : Terms}
    (hg : grant.toNat = g.val) (hgen : (s.grant g).gen = gen) (hb : (s.grant g).body = .live t)
    (f : GrantNum → Terms → Executed) : onLive s grant gen f = f g t := by
  simp only [onLive, State.resolve, hg, g.isLt, dite_true, Fin.eta, hgen, if_true, hb]

/-- A reference that does not resolve to a LIVE entry is refused (R8, R143). -/
theorem onLive_refused {s : State} {grant : BitVec 16} {gen : BitVec 8} {status : CmdStatus} {w1 w2 : Word}
    (h : firstFailure (s.referenceChecks grant gen) = some (status, w1, w2)) (f : GrantNum → Terms → Executed) :
    onLive s grant gen f = refuseWith status w1 w2 s := by
  unfold State.referenceChecks at h
  unfold onLive State.resolve
  by_cases hlt : grant.toNat < 512
  · rw [dif_pos hlt] at h ⊢
    simp only [firstFailure_cons, firstFailure_nil, decide_eq_true_eq] at h ⊢
    by_cases hgen : (s.grant ⟨grant.toNat, hlt⟩).gen = gen
    · rw [if_pos hgen]
      cases hb : (s.grant ⟨grant.toNat, hlt⟩).body with
      | free =>
        rw [if_pos (.inl hb)] at h
        cases h
        rfl
      | live t => simp [hb, hgen, Body.isLive] at h
      | closing t c =>
        rw [if_neg (by simp [hb, hgen]), if_pos (by rw [hb]; rfl)] at h
        cases h
        rfl
    · rw [if_neg hgen]
      rw [if_pos (.inr hgen)] at h
      cases h
      rfl
  · rw [dif_neg hlt] at h ⊢
    cases h
    rfl

/-! ### AMEND -/

/-- A bit vector is 0 exactly as a number. -/
theorem toNat_eq_zero_iff {n : Nat} (x : BitVec n) : x.toNat = 0 ↔ x = 0 := by
  rw [BitVec.toNat_eq]
  simp

/-- The range test of AMEND's fields, written out (R147, check 2). -/
theorem amendBadField_iff (f : AmendFields) (t : Terms) :
    amendBadField f t = true ↔
      (f.lifetimeAction = 3 ∨ f.notifyAction = 3 ∨ (f.lifetimeAction = 1 ∧ f.lifetime = 0) ∨
        15 < f.credits.toNat ∨ (f.renewSet = true ∧ f.renewAmount = 0) ∨
        (f.rightsSet = true ∧ f.read = false ∧ f.write = false) ∨
        (f.lengthSet = true ∧ (f.length.toNat = 0 ∨ 65536 < f.length.toNat))) ∨
      (0 < (amendedRecord f t).credits ∧ f.renewSet = false ∧ t.renewAmount = none) := by
  have hflags : (amendedRights f).isNone = true ↔ f.read = false ∧ f.write = false := by
    unfold amendedRights
    cases f.read <;> cases f.write <;> simp [Rights.ofFlags]
  simp only [amendBadField, Bool.or_eq_true, Bool.and_eq_true, beq_iff_eq, decide_eq_true_eq, Bool.not_eq_true',
    hflags, Option.isNone_iff_eq_none, toNat_eq_zero_iff, or_assoc, and_assoc]
  rfl

/-- An AMEND with its fields in range leaves the record as described (R148). -/
theorem amendedTerms_eq {f : AmendFields} {t : Terms} (h : ¬ (f.rightsSet = true ∧ f.read = false ∧ f.write = false)) :
    amendedTerms f t = amendedRecord f t := by
  have hrights : (if f.rightsSet then (amendedRights f).getD t.rights else t.rights) = (amendedRecord f t).rights := by
    simp only [amendedRecord, amendedRights]
    cases hs : f.rightsSet with
    | false => rfl
    | true =>
      cases hr : f.read <;> cases hw : f.write
      case false.false => exact absurd ⟨hs, hr, hw⟩ h
      all_goals rfl
  have hrenew : (if f.renewSet = true ∧ 0 < amendedCredits f t then some f.renewAmount.toNat else t.renewAmount) =
      (amendedRecord f t).renewAmount := if_congr and_comm rfl rfl
  simp only [amendedTerms, hrights, hrenew]
  rfl

/-- An amendment narrows a grant as the statement puts it (R147, check 3). -/
theorem narrows_iff (t u : Terms) :
    narrows t u = true ↔
      u.length < t.length ∨ (t.rights ≠ .write ∧ u.rights = .write) ∨ (t.rights ≠ .read ∧ u.rights = .read) := by
  simp only [narrows, Bool.or_eq_true, Bool.and_eq_true, Bool.not_eq_true', decide_eq_true_eq, or_assoc]
  cases t.rights <;> cases u.rights <;> simp [Rights.hasRead, Rights.hasWrite]

/-- An amendment widens a grant as the statement puts it (R18). -/
theorem widens_eq (t u : Terms) :
    widens t u = decide (t.length < u.length ∨ (t.rights = .read ∧ u.rights ≠ .read)) := by
  rw [Bool.eq_iff_iff]
  simp only [widens, Bool.or_eq_true, Bool.and_eq_true, Bool.not_eq_true', decide_eq_true_eq]
  cases t.rights <;> cases u.rights <;> simp [Rights.hasWrite]

/-- The window that AMEND sets ends above MEM_TOP, as the statement puts it (R147, check 4). -/
theorem amendedWindow_iff (f : AmendFields) (t : Terms) (memTop : Nat) :
    (f.lengthSet = true ∧ memTop < (amendedRecord f t).windowEnd) ↔
      (f.lengthSet = true ∧ memTop < t.base + f.length.toNat) := by
  refine and_congr_right fun hl => ?_
  simp only [Terms.windowEnd, amendedRecord, hl, if_true]

/-- AMEND of a LIVE grant with its fields in range, its terms as the statements put them (R147, R148). -/
theorem executeAmend_live {f : AmendFields} {s : State} {g : GrantNum} {t : Terms} (hg : f.grant.toNat = g.val)
    (hgen : (s.grant g).gen = f.gen) (hb : (s.grant g).body = .live t) (hf : ¬ amendBadField f t = true) :
    executeAmend f s =
      if 0 < (s.grant g).inFlight ∧ narrows t (amendedRecord f t) = true then refuseWith .inFlight 0 0 s
      else if f.lengthSet = true ∧ s.memTop < (amendedRecord f t).windowEnd then refuseWith .badWindow 0 0 s
      else
        match (if widens t (amendedRecord f t) then s.firstConflict (some g) (amendedRecord f t) else none) with
        | some h => refuseWith .conflict (refWord h (s.grant h).gen) 0 s
        | none =>
          done (refWord g (s.grant g).gen) (termsWord (amendedRecord f t)) (lifetimeWord (amendedRecord f t))
            (s.setBody g (.live (amendedRecord f t))) := by
  have hflags : ¬ (f.rightsSet = true ∧ f.read = false ∧ f.write = false) := fun h =>
    hf ((amendBadField_iff f t).2 (.inl (.inr (.inr (.inr (.inr (.inr (.inl h))))))))
  rw [executeAmend, onLive_live hg hgen hb]
  simp only [amendedTerms_eq hflags, if_neg hf] <;> rfl

/-- The checks of AMEND in the model's form (R147). -/
theorem firstFailure_amendChecks (s : State) (f : AmendFields) (g : GrantNum) (t : Terms) :
    firstFailure (s.amendChecks f g t) =
      if amendBadField f t = true then some (.badField, 0, 0)
      else if 0 < (s.grant g).inFlight ∧ narrows t (amendedRecord f t) = true then some (.inFlight, 0, 0)
      else if f.lengthSet = true ∧ s.memTop < (amendedRecord f t).windowEnd then some (.badWindow, 0, 0)
      else if widens t (amendedRecord f t) = true ∧ s.conflicting (some g) (amendedRecord f t) ≠ [] then
        some (s.conflictAnswer (s.conflicting (some g) (amendedRecord f t)))
      else none := by
  simp only [State.amendChecks, firstFailure_cons, firstFailure_nil, Bool.and_eq_true, Bool.not_eq_true',
    List.isEmpty_eq_false_iff, ← widens_eq]
  simp only [decide_eq_true_eq, amendBadField_iff, narrows_iff, amendedWindow_iff, ite_or]

/-- AMEND refused by the first of its checks that fails (R147). -/
theorem executeAmend_refused {f : AmendFields} {s : State} {g : GrantNum} {t : Terms} {status : CmdStatus}
    {w1 w2 : Word}
    (hg : f.grant.toNat = g.val) (hgen : (s.grant g).gen = f.gen) (hb : (s.grant g).body = .live t)
    (h : firstFailure (s.amendChecks f g t) = some (status, w1, w2)) :
    executeAmend f s = refuseWith status w1 w2 s := by
  rw [firstFailure_amendChecks] at h
  by_cases hfield : amendBadField f t = true
  · rw [if_pos hfield] at h
    cases h
    rw [executeAmend, onLive_live hg hgen hb]
    exact if_pos hfield
  rw [if_neg hfield] at h
  rw [executeAmend_live hg hgen hb hfield]
  by_cases hflight : 0 < (s.grant g).inFlight ∧ narrows t (amendedRecord f t) = true
  · rw [if_pos hflight] at h ⊢
    cases h
    rfl
  rw [if_neg hflight] at h ⊢
  by_cases hwindow : f.lengthSet = true ∧ s.memTop < (amendedRecord f t).windowEnd
  · rw [if_pos hwindow] at h ⊢
    cases h
    rfl
  rw [if_neg hwindow] at h ⊢
  by_cases hconflict : widens t (amendedRecord f t) = true ∧ s.conflicting (some g) (amendedRecord f t) ≠ []
  · obtain ⟨k, hfirst, hanswer⟩ := refuse_firstConflict hconflict.2
    rw [if_pos hconflict, hanswer] at h
    cases h
    simp only [hconflict.1, if_true, hfirst]
  · rw [if_neg hconflict] at h
    cases h

/-- AMEND that passes every check changes the record's terms (R148). -/
theorem executeAmend_passes {f : AmendFields} {s : State} {g : GrantNum} {t : Terms}
    (hg : f.grant.toNat = g.val) (hgen : (s.grant g).gen = f.gen) (hb : (s.grant g).body = .live t)
    (h : firstFailure (s.amendChecks f g t) = none) :
    executeAmend f s =
      done (refWord g (s.grant g).gen) (termsWord (amendedRecord f t)) (lifetimeWord (amendedRecord f t))
        (s.setBody g (.live (amendedRecord f t))) := by
  rw [firstFailure_amendChecks] at h
  have hfield : ¬ amendBadField f t = true := fun hp => by rw [if_pos hp] at h; cases h
  rw [if_neg hfield] at h
  have hflight : ¬ (0 < (s.grant g).inFlight ∧ narrows t (amendedRecord f t) = true) := fun hp => by
    rw [if_pos hp] at h; cases h
  rw [if_neg hflight] at h
  have hwindow : ¬ (f.lengthSet = true ∧ s.memTop < (amendedRecord f t).windowEnd) := fun hp => by
    rw [if_pos hp] at h; cases h
  rw [if_neg hwindow] at h
  have hconflict : (if widens t (amendedRecord f t) then s.firstConflict (some g) (amendedRecord f t) else none) =
      none := by
    split
    · next hw =>
      refine firstConflict_none (not_not.1 fun hne => ?_)
      rw [if_pos ⟨hw, hne⟩] at h
      cases h
    · rfl
  rw [executeAmend_live hg hgen hb hfield, if_neg hflight, if_neg hwindow, hconflict]

/-- Settles O20: the reference is resolved first, and AMEND makes its checks in the order of the statement's list. -/
theorem amendAndRevokeRefused : Obligations.AmendAndRevokeRefused := by
  intro tag s status w1 w2 htake
  refine ⟨fun f h => ?_, fun grant gen h => ?_, fun f g t hg hgen hb h => ?_⟩
  · exact command_refused (c := .amend f) htake trivial (onLive_refused h _)
  · exact command_refused (c := .revoke grant gen) htake trivial (onLive_refused h _)
  · exact command_refused (c := .amend f) htake trivial (executeAmend_refused hg hgen hb h)

/-- Settles O21: with every check passed the record takes the amended terms, which the results show. -/
theorem amendApplies : Obligations.AmendApplies := by
  intro tag f s g t htake hg hgen hb h
  refine (command_done (c := .amend f) htake trivial (executeAmend_passes hg hgen hb h)).trans ?_
  rw [State.setBody, State.setGrant_eq_withGrant]
  rfl

end Sys2Proof.Machine
end


section
/-! PROOFS. The step, the resets and the register window (log 1, R171, R182 to R185). -/

namespace Sys2Proof.Machine

/-! ### The step and power-on reset -/

/-- Settles O1: the step takes the command at the front of the queue, or idles. -/
theorem stepTakesFrontCommand : Obligations.StepTakesFrontCommand :=
  fun _ => ⟨fun _ _ => rfl, rfl⟩

theorem powerOn_slot (low out : Bool) (straps : BitVec 6) (s : State) (sl : SlotNum) :
    (powerOn low out straps s).slot sl = Slot.initial :=
  State.reset_slot sl

theorem powerOn_ctx (low out : Bool) (straps : BitVec 6) (s : State) (c : CtxNum) :
    (powerOn low out straps s).ctx c = Ctx.initial :=
  State.reset_ctx c

/-- Settles O3: power-on reset sets every field but SELF, node memory and the waiting commands to its power-on value. -/
theorem powerOnResetValues : Obligations.PowerOnResetValues := by
  intro low out straps s
  refine ⟨powerOn low out straps s, rfl, powerOn_grant low out straps s, powerOn_slot low out straps s,
    fun c => ?_, ?_⟩
  · rw [powerOn_ctx]
    exact ⟨rfl, rfl, rfl, rfl, rfl, rfl⟩
  · simp only [powerOn, State.reset, Bool.or_eq_true]
    generalize List.finRange 512 = l
    rfl

/-! ### CONTROL -/

/-- The enables that a word gives do not depend on its ENGINE_RESET bit. -/
theorem enables_withBit_engineReset (v : Word) (b : Bool) : Enables.ofWord (withBit v 1 b) = Enables.ofWord v := by
  simp (disch := decide) only [Enables.ofWord, getLsbD_withBit_other]

/-- A CONTROL write with ENGINE_RESET set or cleared has the other fields of its word (R183). -/
theorem controlWrite_withBit_engineReset (v : Word) (b : Bool) (s : State) :
    controlWrite (withBit v 1 b) s =
      let u := linkEnableWrite (v.getLsbD 0) { s with enables := Enables.ofWord v }
      if b then engineReset u else u := by
  simp only [controlWrite, enables_withBit_engineReset, getLsbD_withBit_self v (show 1 < 32 by decide),
    getLsbD_withBit_other v b (show 0 < 32 by decide) (show 1 ≠ 0 by decide)]

theorem engineReset_ctx (s : State) (c : CtxNum) : (engineReset s).ctx c = (s.ctx c).engineReset := by
  simp [engineReset, State.ctx]

/-- An engine reset leaves a FREE entry and frees any other (R24). -/
theorem Grant.engineReset_eq (x : Grant) :
    x.engineReset = if x.body = .free then x else { gen := x.gen + 1, inFlight := 0, body := .free } := by
  cases hb : x.body <;> simp [Grant.engineReset, hb]

/-- Settles O5: the reset sets each block's state as its own rule says, on the state that the write leaves. -/
theorem engineResetClears : Obligations.EngineResetClears := by
  intro v s hreset
  have hwrite := controlWrite_withBit_engineReset v false s
  have hboth := controlWrite_withBit_engineReset v true s
  simp only [if_true, Bool.false_eq_true, if_false] at hwrite hboth
  generalize linkEnableWrite (v.getLsbD 0) { s with enables := Enables.ofWord v } = u at hwrite hboth
  refine ⟨u, engineReset u, ?_, ?_, fun g => ?_, engineReset_slot u, engineReset_ctx u, fun hp => ?_,
    fun owner op hp => ?_, rfl⟩
  · rw [exec_interruptEnableWrite, event_running hreset, hwrite]
  · rw [exec_engineReset, event_running hreset, hboth]
  · rw [engineReset_grant, Grant.engineReset_eq]
  · exact congrArg Port.detach hp
  · exact congrArg Port.detach hp

/-- LINK_ENABLE written 1 while it is 1 changes nothing (R125). -/
theorem linkEnableWrite_enabled {s : State} (h : s.linkEnable = true) : linkEnableWrite true s = s := by
  simp [linkEnableWrite, h]

/-- LINK_ENABLE written 1 is ignored while SELF is not valid (R125). -/
theorem linkEnableWrite_invalid {s : State} (h : s.selfValid = false) : linkEnableWrite true s = s := by
  simp [linkEnableWrite, h]

/-- LINK_ENABLE written 1 in DOWN starts the training (R125). -/
theorem linkEnableWrite_trains {s : State} (hv : s.selfValid = true) (he : s.linkEnable = false) (hl : s.link = .down) :
    linkEnableWrite true s = { s with linkEnable := true, link := .training, trainingTime := 0 } := by
  simp only [linkEnableWrite, hv, he, hl, and_self, if_true]

/-- LINK_ENABLE written 0 leaves the link DOWN, or takes it there from TRAINING (R125). -/
theorem linkEnableWrite_disables {s : State} (h : s.link = .training ∨ s.link = .down) :
    linkEnableWrite false s = { s with linkEnable := false, link := .down } := by
  obtain hl | hl := h
  · simp only [linkEnableWrite, hl, Bool.false_eq_true, if_false]
  · simp only [linkEnableWrite, hl, Bool.false_eq_true, if_false]

/-- LINK_ENABLE written as it is, with the link DOWN while it is 0, changes nothing (R125). -/
theorem linkEnableWrite_same {s : State} (h : s.linkEnable = false → s.link = .down) :
    linkEnableWrite s.linkEnable s = s := by
  cases he : s.linkEnable with
  | true => exact linkEnableWrite_enabled he
  | false =>
    have hl := h he
    rw [linkEnableWrite_disables (.inr hl), ← he, ← hl]

/-- Settles O7: the four rows are the one write, and LINK_ENABLE acts by the link's state. -/
theorem controlWriteIsOneEvent : Obligations.ControlWriteIsOneEvent := by
  intro v s hreset
  obtain ⟨henable, hdisable, hengine, hinterrupt⟩ := exec_controlRows (v := v) hreset
  refine ⟨fun hkept hdown => ?_, ⟨controlWrite v s, ?_, ?_⟩, fun hb1 => ?_⟩
  · rw [exec_interruptEnableWrite, event_running hreset, controlWrite_withBit_engineReset, hkept]
    exact congrArg _ (linkEnableWrite_same (s := { s with enables := Enables.ofWord v }) hdown)
  · split
    · next h => exact henable h
    · next h => exact hdisable (Bool.not_eq_true _ ▸ h)
  · split
    · next h => exact hengine h
    · next h => exact hinterrupt (Bool.not_eq_true _ ▸ h)
  · have hwrite := controlWrite_no_reset s hb1
    refine ⟨fun hb0 hv he hl => ?_, fun hb0 hv => ?_, fun hb0 he => ?_, fun hb0 hl => ?_⟩
    · rw [henable hb0, hwrite, hb0]
      exact congrArg _ (linkEnableWrite_trains hv he hl)
    · rw [henable hb0, hwrite, hb0]
      exact congrArg _ (linkEnableWrite_invalid hv)
    · rw [henable hb0, hwrite, hb0]
      exact congrArg _ (linkEnableWrite_enabled he)
    · rw [hdisable hb0, hwrite, hb0]
      exact congrArg _ (linkEnableWrite_disables hl)

/-- Settles O12: a write to ALERTS clears flag by flag, and an ignored write is none. -/
theorem alertsAndIgnoredWrites : Obligations.AlertsAndIgnoredWrites := by
  intro s hreset
  refine ⟨fun v => (event_running hreset).trans rfl, fun offset lanes v hwf => ?_⟩
  exact (event_running hreset).trans (congrArg _ (windowWrite_ignored hwf s))

/-! ### The register window as it is read -/

/-- While the part is held in reset a read shows 0 (R185). -/
theorem readWindow_held {s : State} (h : s.inReset = true) (offset : BitVec 8) (lanes : BitVec 4) :
    readWindow s offset lanes = 0 := if_pos h

/-- The fields of CONTROL as it is read (Table 11-2). -/
theorem controlWord_fields (s : State) :
    (controlWord s).getLsbD 0 = s.linkEnable ∧ (controlWord s).getLsbD 1 = false ∧
      Enables.ofWord (controlWord s) = s.enables := by
  refine ⟨?_, ?_, ?_⟩
  · simp (disch := decide) only [controlWord, BitVec.getLsbD_or, getLsbD_flag_self, getLsbD_flag_other, Bool.or_false]
  · simp (disch := decide) only [controlWord, BitVec.getLsbD_or, getLsbD_flag_other, Bool.or_false]
  · simp (disch := decide) only [Enables.ofWord, controlWord, BitVec.getLsbD_or, getLsbD_flag_self, getLsbD_flag_other,
      Bool.or_false, Bool.false_or]

/-- SELF is not valid when it is 0 or 63 (R130). -/
theorem State.selfValid_eq (s : State) : (!s.selfValid) = decide (s.self = 0 ∨ s.self = 63) := by
  simp only [State.selfValid, bne, Bool.not_and, Bool.not_not, Bool.decide_or, beq_eq_decide]

/-- A number below its field's reach is read back. -/
theorem toNat_bits_number {lo width v : Nat} {w : Word} (hw : bits w lo width = BitVec.ofNat width v)
    (hv : v < 2 ^ width) : (bits w lo width).toNat = v := by
  rw [hw, BitVec.toNat_ofNat, Nat.mod_eq_of_lt hv]

/-- The fields of STATUS (Table 11-3). -/
theorem statusWord_fields (s : State) :
    bits (statusWord s) 0 2 = s.link.code ∧ (statusWord s).getLsbD 2 = (!s.selfValid) ∧
      (statusWord s).getLsbD 3 = (!s.backlog.isEmpty) ∧ bits (statusWord s) 4 2 = s.hold.code ∧
      bits (statusWord s) 8 6 = s.self ∧ bits (statusWord s) 16 5 = BitVec.ofNat 5 s.fifo.length ∧
      bits (statusWord s) 24 7 = BitVec.ofNat 7 s.cq.length := by
  simp only [statusWord]
  refine ⟨?_, ?_, ?_, ?_, ?_, ?_, ?_⟩ <;>
    simp (disch := decide) only [bits_or, bits_place_self, bits_place_disjoint, bits_number_self, bits_number_disjoint,
      bits_flag_disjoint, BitVec.getLsbD_or, getLsbD_place_disjoint, getLsbD_number_disjoint, getLsbD_flag_self,
      getLsbD_flag_other, or_zero_field, zero_or_field, Bool.or_false, Bool.false_or]

/-- The flags of ALERTS (Table 11-1). -/
theorem alertsWord_fields (s : State) :
    (alertsWord s).getLsbD 0 = s.alerts.linkChange ∧ (alertsWord s).getLsbD 1 = s.alerts.cmdOverrun ∧
      (alertsWord s).getLsbD 2 = s.alerts.busFault ∧ (alertsWord s).getLsbD 3 = s.alerts.backlog := by
  simp only [alertsWord]
  refine ⟨?_, ?_, ?_, ?_⟩ <;>
    simp (disch := decide) only [BitVec.getLsbD_or, getLsbD_flag_self, getLsbD_flag_other, Bool.or_false, Bool.false_or]

/-- The head words (R165). -/
theorem windowWord_head (s : State) (i : Fin 4) :
    windowWord s (BitVec.ofNat 8 (4 * (12 + i.val))) = (headWords s.cq)[i.val] := by
  match i with
  | 0 => rfl
  | 1 => rfl
  | 2 => rfl
  | 3 => rfl

/-- A full-width read at a head word's offset shows the word, outside reset. -/
theorem readWindow_head {s : State} (h : s.inReset = false) (i : Fin 4) :
    readWindow s (BitVec.ofNat 8 (48 + 4 * i.val)) 15 = (headWords s.cq)[i.val] := by
  have hoffset : 48 + 4 * i.val = 4 * (12 + i.val) := by omega
  rw [hoffset, readWindow_full s ⟨12 + i.val, by omega⟩ h, windowWord_head]

/-- An empty queue's head words are 0 (R165). -/
theorem headWords_nil (i : Fin 4) : (headWords [])[i.val] = 0 := by
  match i with
  | 0 => rfl
  | 1 => rfl
  | 2 => rfl
  | 3 => rfl

/-- The byte in which a bit of a byte of a word lies. -/
theorem bit_of_byte {b i : Nat} (hi : i < 8) : (8 * b + i) / 8 = b := by omega

/-- The multiple of four below a byte offset is a word's offset. -/
theorem wordOffset_aligned (offset : BitVec 8) : wordOffset (wordOffset offset) = wordOffset offset := by
  rw [wordOffset, wordOffset, BitVec.and_assoc]
  rfl

/-- An addressed byte of a read is the byte of the full-width read of its word, and another one is 0 (R182). -/
theorem readWindow_byte (s : State) (offset : BitVec 8) (lanes : BitVec 4) (b : Fin 4) :
    bits (readWindow s offset lanes) (8 * b.val) 8 =
      if lanes.getLsbD b.val = true then
        bits (readWindow s (BitVec.ofNat 8 (offset.toNat / 4 * 4)) 15) (8 * b.val) 8
      else 0 := by
  have hfull : (15 : BitVec 4).getLsbD b.val = true := by revert b; decide
  rw [← wordOffset_eq]
  refine BitVec.eq_of_getLsbD_eq fun i hi => ?_
  rw [getLsbD_bits, getLsbD_readWindow, bit_of_byte hi]
  cases hl : lanes.getLsbD b.val with
  | false => simp
  | true => rw [if_pos rfl, getLsbD_bits, getLsbD_readWindow, bit_of_byte hi, wordOffset_aligned, hfull]

/-- IRQn is asserted by a record that waits or by an alert with its enable set (R172). -/
theorem irqAsserted_iff (s : State) :
    irqAsserted s = true ↔
      (s.cq ≠ [] ∧ s.enables.cq = true) ∨ (s.alerts.linkChange = true ∧ s.enables.linkChange = true) ∨
        (s.alerts.cmdOverrun = true ∧ s.enables.cmdOverrun = true) ∨
        (s.alerts.busFault = true ∧ s.enables.busFault = true) ∨
        (s.alerts.backlog = true ∧ s.enables.backlog = true) := by
  simp only [irqAsserted, alertTerm, Bool.or_eq_true, Bool.and_eq_true, Bool.not_eq_true', List.isEmpty_eq_false_iff,
    or_assoc]

/-- Settles O13: each word of the window, read at full width, and the lanes of a narrow read. -/
theorem windowShowsState : Obligations.WindowShowsState := by
  intro s hqueues
  obtain ⟨hcq, hfifo, -⟩ := hqueues
  refine ⟨fun h => readWindow_held h, fun h => ?_, irqAsserted_iff s⟩
  have hword : ∀ k : Fin 64, readWindow s (BitVec.ofNat 8 (4 * k.val)) 15 = windowWord s (BitVec.ofNat 8 (4 * k.val)) :=
    fun k => readWindow_full s k h
  have hcontrol : readWindow s 0x04 15 = controlWord s := hword 1
  have hstatus : readWindow s 0x08 15 = statusWord s := hword 2
  have halerts : readWindow s 0x0C 15 = alertsWord s := hword 3
  obtain ⟨henable, hengine, henables⟩ := controlWord_fields s
  obtain ⟨hlink, hself, hbacklog, hhold, hnumber, hwaiting, hplaced⟩ := statusWord_fields s
  obtain ⟨hlinkChange, hoverrun, hfault, halert⟩ := alertsWord_fields s
  rw [hcontrol, hstatus, halerts]
  refine ⟨hword 0, henable, hengine, henables, hlink, hself.trans s.selfValid_eq, hbacklog.trans ?_, hhold, hnumber,
    toNat_bits_number hwaiting (Nat.lt_of_le_of_lt hfifo (by decide)),
    toNat_bits_number hplaced (Nat.lt_of_le_of_lt hcq (by decide)), hlinkChange, hoverrun, hfault, halert,
    fun c rest hc i => ?_, fun hc i => ?_, hword 8, hword 16, readWindow_byte s⟩
  · cases s.backlog <;> rfl
  · rw [readWindow_head h]
    simp only [hc, headWords]
  · rw [readWindow_head h]
    simp only [hc, headWords_nil]

end Sys2Proof.Machine
end


section
/-! PROOFS. The Command Unit (R138 to R143): the submission of records, the CMD_DONE record of a command taken, and
refusals. -/

namespace Sys2Proof.Machine

/-! ### Submission -/

/-- A host command's row, or SUBMIT, is the submission of its record (R139, log 3). -/
theorem exec_hostRecord {c : Instr} {r : Record} {s : State} (h : hostRecord s c = some r) :
    exec c s = event (submitRecord r) s := by
  cases c <;> cases h <;> rfl

/-- Settles O14: a row with a record is that record's submission. -/
theorem submitFollowsFifo : Obligations.SubmitFollowsFifo := by
  intro c r s hreset hrecord
  have hexec : exec c s = .next (submitRecord r s) := (exec_hostRecord hrecord).trans (event_running hreset)
  refine ⟨fun hfull => ?_, fun hroom hblocked => ?_, fun d hd => ⟨submitRecord r s, hexec, ?_⟩⟩
  · rw [hexec, submitRecord_dropped hfull]
  · have hfree : s.slotFree = false := by
      rw [← Bool.not_eq_true, s.slotFree_iff]
      rintro ⟨hempty, hlt⟩
      exact hblocked.elim (fun h => h hempty) fun h => absurd hlt (Nat.not_lt.2 h)
    rw [hexec, submitRecord_waits hroom hfree]
  · exact (exec_hostRecord hd).trans (event_running hreset)

/-! ### A command that is not carried out changes nothing -/

/-- The command is carried out, or leaves the state and hands nothing over (R142). -/
def Executed.Clean (e : Executed) (s : State) : Prop := e.status = .ok ∨ (e.state = s ∧ e.ready = [])

theorem refuse_clean (status : CmdStatus) (s : State) : (refuse status s).Clean s := .inr ⟨rfl, rfl⟩

theorem refuseWith_clean (status : CmdStatus) (w1 w2 : Word) (s : State) : (refuseWith status w1 w2 s).Clean s :=
  .inr ⟨rfl, rfl⟩

theorem done_clean (w1 w2 w3 : Word) (s u : State) : (done w1 w2 w3 u).Clean s := .inl rfl

theorem onLive_clean {s : State} {f : GrantNum → Terms → Executed} (hf : ∀ g t, (f g t).Clean s) (grant : BitVec 16)
    (gen : BitVec 8) : (onLive s grant gen f).Clean s := by
  unfold onLive
  split
  · exact refuse_clean ..
  · exact refuseWith_clean ..
  · exact refuseWith_clean ..
  · exact hf _ _

theorem executeIssue_clean (f : IssueFields) (s : State) : (executeIssue f s).Clean s := by
  unfold executeIssue
  split
  · exact refuse_clean ..
  · simp only []
    split
    · exact refuse_clean ..
    · split
      · exact refuse_clean ..
      · split
        · exact refuseWith_clean ..
        · split
          · exact refuseWith_clean ..
          · split
            · exact refuse_clean ..
            · exact done_clean ..

theorem executeAmend_clean (f : AmendFields) (s : State) : (executeAmend f s).Clean s := by
  refine onLive_clean (fun g t => ?_) f.grant f.gen
  simp only []
  split
  · exact refuse_clean ..
  · split
    · exact refuse_clean ..
    · split
      · exact refuse_clean ..
      · split
        · exact refuseWith_clean ..
        · exact done_clean ..

theorem executeSweep_clean (station : StationNum) (shared : Bool) (s : State) :
    (executeSweep station shared s).Clean s := by
  unfold executeSweep
  split
  · exact .inl rfl
  · exact refuse_clean ..

theorem executeQueryGrant_clean (grant : BitVec 16) (part : BitVec 2) (s : State) :
    (executeQueryGrant grant part s).Clean s := by
  unfold executeQueryGrant
  split
  · simp only []
    split
    · exact done_clean ..
    · split
      · exact done_clean ..
      · exact refuse_clean ..
  · exact refuse_clean ..

theorem executeQueryLine_clean (line : Word) (skip : BitVec 16) (s : State) : (executeQueryLine line skip s).Clean
    s := by
  unfold executeQueryLine
  split
  · exact refuse_clean ..
  · simp only []
    split
    · exact done_clean ..
    · exact done_clean ..

theorem admitOrBar_clean (n : StationNum) (change : Station → Station) (created : Station) (s : State) :
    (admitOrBar n change created s).Clean s := by
  unfold admitOrBar
  split
  · exact done_clean ..
  · split
    · exact done_clean ..
    · exact refuse_clean ..

theorem executeAdmit_clean (n : StationNum) (quota : BitVec 16) (s : State) : (executeAdmit n quota s).Clean s := by
  unfold executeAdmit
  split
  · exact refuse_clean ..
  · exact admitOrBar_clean ..

theorem executeBar_clean (n : StationNum) (s : State) : (executeBar n s).Clean s := by
  unfold executeBar
  split
  · exact refuse_clean ..
  · exact admitOrBar_clean ..

theorem executeForget_clean (n : StationNum) (s : State) : (executeForget n s).Clean s := by
  unfold executeForget
  split
  · split
    · exact refuse_clean ..
    · split
      · exact refuse_clean ..
      · split
        · exact refuseWith_clean ..
        · exact done_clean ..
  · exact refuse_clean ..

theorem executeQueryStation_clean (n : StationNum) (part : BitVec 2) (s : State) :
    (executeQueryStation n part s).Clean s := by
  unfold executeQueryStation
  split
  · exact refuse_clean ..
  · split
    · exact refuse_clean ..
    · split
      · exact refuse_clean ..
      · exact done_clean ..

theorem executeSetLimits_clean (f : LimitsFields) (s : State) : (executeSetLimits f s).Clean s := by
  by_cases h : limitsOutOfRange f
  · rw [executeSetLimits_outOfRange h]
    exact refuseWith_clean ..
  · rw [executeSetLimits_inRange h]
    split
    · exact refuseWith_clean ..
    · exact done_clean ..

theorem executeSetTiming_clean (f : TimingFields) (s : State) : (executeSetTiming f s).Clean s := by
  simp only [executeSetTiming]
  split
  · exact refuse_clean ..
  · split
    · exact refuse_clean ..
    · split
      · exact refuse_clean ..
      · exact done_clean ..

theorem executeHold_clean (freeze : Bool) (s : State) : (executeHold freeze s).Clean s := by
  unfold executeHold
  split
  · exact done_clean ..
  · exact refuseWith_clean ..
  · exact refuseWith_clean ..

theorem executeResume_clean (s : State) : (executeResume s).Clean s := by
  unfold executeResume
  split
  · exact refuse_clean ..
  · exact done_clean ..
  · exact done_clean ..

theorem execute_clean (c : Command) (s : State) : (execute c s).Clean s := by
  cases c with
  | issue f => exact executeIssue_clean f s
  | amend f => exact executeAmend_clean f s
  | revoke grant gen => exact onLive_clean (fun _ _ => .inl rfl) grant gen
  | sweep station shared => exact executeSweep_clean station shared s
  | queryGrant grant part => exact executeQueryGrant_clean grant part s
  | queryLine line skip => exact executeQueryLine_clean line skip s
  | admitStation station quota => exact executeAdmit_clean station quota s
  | bar station => exact executeBar_clean station s
  | forget station => exact executeForget_clean station s
  | queryStation station part => exact executeQueryStation_clean station part s
  | setLimits f => exact executeSetLimits_clean f s
  | setTiming f => exact executeSetTiming_clean f s
  | hold freeze => exact executeHold_clean freeze s
  | resume => exact executeResume_clean s
  | bad code => exact refuse_clean ..

/-! ### The records that a command taken places -/

/-- The record is a RETIRED one. -/
def Completion.IsRetired (x : Completion) : Prop :=
  ∃ g gen holder cause outcome cookie, x = .retired g gen holder cause outcome cookie

/-- The test for readiness places at most the grant's RETIRED record (R35, R39). -/
theorem testReady_cq (g : GrantNum) (s : State) :
    ∃ rest, (testReady g s).cq = s.cq ++ rest ∧ ∀ x ∈ rest, x.IsRetired := by
  have hkept : ∀ {t : State}, t.cq = s.cq → ∃ rest, t.cq = s.cq ++ rest ∧ ∀ x ∈ rest, x.IsRetired :=
    fun h => ⟨[], by rw [h, List.append_nil], fun x hx => absurd hx List.not_mem_nil⟩
  unfold testReady
  split
  · split
    · unfold retire
      split
      · next t c _ =>
        refine ⟨[.retired g (s.grant g).gen t.holder c.cause c.notice t.cookie], ?_, fun x hx => ?_⟩
        · obtain ⟨_, _, _, _, h⟩ := freeGrant_only g t.holder s
          rw [placeRecord_cq, h]
        · exact ⟨_, _, _, _, _, _, List.mem_singleton.1 hx⟩
      · exact hkept rfl
      · exact hkept rfl
    · obtain ⟨_, h⟩ := setRetireWait_only g s
      rw [h]
      exact hkept rfl
  · exact hkept rfl

/-- Tests for readiness in turn place RETIRED records alone. -/
theorem testReadyAll_cq (gs : List GrantNum) (s : State) :
    ∃ rest, (testReadyAll gs s).cq = s.cq ++ rest ∧ ∀ x ∈ rest, x.IsRetired := by
  induction gs generalizing s with
  | nil => exact ⟨[], by simp, fun x hx => absurd hx List.not_mem_nil⟩
  | cons g gs ih =>
    obtain ⟨first, hfirst, hretired⟩ := testReady_cq g s
    obtain ⟨rest, hrest, hretired'⟩ := ih (testReady g s)
    refine ⟨first ++ rest, by rw [testReadyAll_cons, hrest, hfirst, List.append_assoc], fun x hx => ?_⟩
    exact (List.mem_append.1 hx).elim (hretired x) (hretired' x)

/-- A command taken places its CMD_DONE record ahead of the RETIRED records that it causes (R142, R143). -/
theorem runRecord_cq (r : Record) {s : State} (hq : s.backlog = []) :
    ∃ rest, (runRecord r s).cq =
        s.cq ++ .cmdDone (Record.code r) (Record.tag r) (execute (decodeCommand r) s).status
          (execute (decodeCommand r) s).w1 (execute (decodeCommand r) s).w2 (execute (decodeCommand r) s).w3 :: rest ∧
      ∀ x ∈ rest, x.IsRetired := by
  obtain ⟨rest, hrest, hretired⟩ := testReadyAll_cq (execute (decodeCommand r) s).ready
    (placeRecord (.cmdDone (Record.code r) (Record.tag r) (execute (decodeCommand r) s).status
      (execute (decodeCommand r) s).w1 (execute (decodeCommand r) s).w2 (execute (decodeCommand r) s).w3)
        (execute (decodeCommand r) s).state)
  have hqueues := (execute_carries (decodeCommand r) hq).2
  have hcq : (execute (decodeCommand r) s).state.cq = s.cq := congrArg Prod.fst hqueues
  refine ⟨rest, ?_, hretired⟩
  rw [runRecord, hrest, placeRecord_cq, hcq, List.append_assoc]
  rfl

/-- A command taken leaves the FIFO as it is behind it. -/
theorem runRecord_fifo (r : Record) {s : State} (hq : s.backlog = []) : (runRecord r s).fifo = s.fifo := by
  have hqueues := (execute_carries (decodeCommand r) hq).2
  have hfifo : (execute (decodeCommand r) s).state.fifo = s.fifo :=
    congrArg (fun q : List Completion × List Event × List Record => q.2.2) hqueues
  obtain ⟨_, _, _, _, _, _, _, h⟩ := testReadyAll_only (execute (decodeCommand r) s).ready
    (placeRecord (.cmdDone (Record.code r) (Record.tag r) (execute (decodeCommand r) s).status
      (execute (decodeCommand r) s).w1 (execute (decodeCommand r) s).w2 (execute (decodeCommand r) s).w3)
        (execute (decodeCommand r) s).state)
  rw [runRecord, h]
  exact hfifo

/-- Settles O15: the CMD_DONE record comes first, and a refusal leaves the state. -/
theorem takenCommandPlacesDoneRecord : Obligations.TakenCommandPlacesDoneRecord := by
  intro c r s htake hrecord
  have hexec : exec c s = .next (runRecord r s) := by
    rw [exec_hostRecord hrecord, event_running htake.1, submitRecord_taken htake]
  obtain ⟨-, hfifo, hbacklog, -⟩ := htake
  obtain ⟨rest, hcq, hretired⟩ := runRecord_cq r hbacklog
  refine ⟨runRecord r s, _, _, _, _, rest, hexec, (runRecord_fifo r hbacklog).trans hfifo, hcq, hretired, fun hstatus =>
    ?_⟩
  obtain ⟨hstate, hready⟩ := (execute_clean (decodeCommand r) s).resolve_left hstatus
  rw [runRecord, hstate, hready]
  rfl

end Sys2Proof.Machine
end


section
/-! PROOFS. The slots of the completion queue (R164 to R169): what a write to CQ_ACK gives, and that nothing else but a
reset removes a record. A command taken depends on neither the FIFO behind it nor the staging words, which the two of
its readings below differ in. -/

namespace Sys2Proof.Machine

/-! ### Records leave the queue by CQ_ACK and the resets alone -/

/-- The completion queue has grown at its tail, if at all. -/
def CqGrows (s t : State) : Prop := s.cq <+: t.cq

theorem CqGrows.of_eq {s t : State} (h : t.cq = s.cq) : CqGrows s t := by
  rw [CqGrows, h]

theorem CqGrows.of_queues {s t : State} (h : t.hostQueues = s.hostQueues) : CqGrows s t :=
  .of_eq (congrArg Prod.fst h)

theorem CqGrows.of_append {s t : State} {rest : List Completion} (h : t.cq = s.cq ++ rest) : CqGrows s t := by
  rw [CqGrows, h]
  exact List.prefix_append _ _

theorem CqGrows.trans {s t u : State} (h : CqGrows s t) (h' : CqGrows t u) : CqGrows s u :=
  List.IsPrefix.trans h h'

theorem testReady_cqGrows (g : GrantNum) (s : State) : CqGrows s (testReady g s) :=
  let ⟨_, h, _⟩ := testReady_cq g s
  .of_append h

theorem handAdmitted_cqGrows (sl : SlotNum) (n : StationNum) (s : State) : CqGrows s (handAdmitted sl n s) := by
  unfold handAdmitted
  split
  · exact .of_append rfl
  · exact .of_eq rfl

theorem handRestarted_cqGrows (sl : SlotNum) (x : Station) (epoch : BitVec 16) (swept : Nat) (s : State) :
    CqGrows s (handRestarted sl x epoch swept s) := by
  unfold handRestarted
  split
  · exact .of_eq rfl
  · split
    · exact .of_append rfl
    · exact .of_eq rfl

theorem retire_cqGrows (g : GrantNum) (s : State) : CqGrows s (retire g s) := by
  unfold retire
  split
  · next t c _ =>
    obtain ⟨_, _, _, _, h⟩ := freeGrant_only g t.holder s
    rw [h]
    exact .of_append rfl
  · exact .of_eq rfl
  · exact .of_eq rfl

theorem placeEvent_cqGrows (e : Event) (s : State) : CqGrows s (placeEvent e s) := by
  cases e with
  | grant g => exact retire_cqGrows g s
  | admitted sl =>
    simp only [placeEvent]
    split
    · exact .of_append rfl
    · exact .of_eq rfl
  | restarted sl =>
    simp only [placeEvent]
    split
    · split
      · exact .of_append rfl
      · exact .of_eq rfl
    · exact .of_eq rfl
  | holdReached => exact .of_append rfl

theorem placeBacklogHead_cqGrows (s : State) : CqGrows s (placeBacklogHead s) := by
  unfold placeBacklogHead
  split
  · exact .of_eq rfl
  · next e rest _ =>
    split
    · exact placeEvent_cqGrows e { s with backlog := rest }
    · exact .of_eq rfl

theorem drainTest_cqGrows (s : State) : CqGrows s (drainTest s) := by
  unfold drainTest handHoldReached
  split
  · split
    · exact .of_append rfl
    · exact .of_eq rfl
  · exact .of_eq rfl

theorem linkLeavesUp_cqGrows (next : LinkState) (s : State) : CqGrows s (linkLeavesUp next s) := by
  obtain ⟨_, _, h⟩ := dropReplies_only s
  unfold linkLeavesUp clearFrames
  rw [h]
  simp only []
  split
  · refine CqGrows.trans (.of_eq ?_) (drainTest_cqGrows _)
    rfl
  · exact .of_eq rfl

/-- No act removes a record from the completion queue. -/
theorem Act.cqGrows {e : Effect} {s t : State} (h : Act e s t) : CqGrows s t := by
  cases h with
  | goesDown => exact CqGrows.trans (.of_eq rfl) (linkLeavesUp_cqGrows .down { s with linkEnable := false })
  | losesSync => exact (linkLeavesUp_cqGrows .training s).trans (.of_eq rfl)
  | transmits => exact .of_queues (txTake_hostQueues s)
  | offers _ sl => exact .of_queues (offerFrame_hostQueues sl s)
  | recounts _ _ g => exact .of_queues (setNotice_hostQueues g _ s)
  | leavesQueue _ sl outcome => exact .of_queues (leaveQueue_hostQueues sl outcome s)
  | abandons _ sl =>
    exact .of_queues ((foldl_view (fun s g => setNotice_hostQueues g .abandoned s) _ _).trans
      (abandonQueue_hostQueues sl s))
  | closes _ cause g => exact .of_queues (closeGrant_hostQueues cause g s)
  | countsDown => exact .of_queues (closeAll_hostQueues .expired _ (countDownAll s))
  | tested _ g => exact testReady_cqGrows g s
  | issues _ f rights g rest => exact .of_queues (allocate_hostQueues g rest _ s)
  | admits _ sl r => exact CqGrows.trans (.of_eq rfl) (handAdmitted_cqGrows sl r.number (createStation sl r s))
  | restarts _ sl x _ epoch swept => exact handRestarted_cqGrows sl x epoch swept s
  | idles _ c => exact CqGrows.trans (.of_eq rfl) (drainTest_cqGrows (s.enter c .idle))
  | reports => exact .of_append rfl
  | placesBacklog => exact placeBacklogHead_cqGrows s
  | drains => exact drainTest_cqGrows s
  | _ => exact .of_eq rfl

theorem Settles.cqGrows {s t : State} (h : Settles s t) : CqGrows s t :=
  Run.keeps (P := fun u => CqGrows s u) (fun hact hs => hs.trans hact.cqGrows) h (.of_eq rfl)

theorem Moves.cqGrows {c : Instr} {s t : State} (h : Moves c s t) (hwf : WellFormed c = true)
    (hack : ∀ v, c ≠ .cqAck v) (hreset : resetsPart c = false) : CqGrows s t := by
  cases h with
  | powers => cases hreset
  | acts _ h => exact h.cqGrows
  | resets _ hw =>
    rw [hw hwf] at hreset
    cases hreset
  | frees _ hw | places _ hw =>
    obtain ⟨v, hv⟩ := hw hwf
    exact absurd hv (hack v)
  | @ends _ _ _ owner op res _ _ h =>
    obtain ⟨_, ha⟩ := acceptWrite_only op res { s with port := .free }
    rw [ha] at h
    exact CqGrows.trans (.of_eq rfl) h.cqGrows

/-! ### A command taken does not depend on the FIFO behind it or on the staging words -/

/-- `s` with another command FIFO and other staging words. -/
def State.withUnit (s : State) (fifo : List Record) (stage : Record) : State := { s with fifo := fifo, stage := stage }

section
variable (s : State) (fifo : List Record) (stage : Record)

theorem withUnit_grant (g : GrantNum) : (s.withUnit fifo stage).grant g = s.grant g := rfl

theorem withUnit_slot (sl : SlotNum) : (s.withUnit fifo stage).slot sl = s.slot sl := rfl

theorem withUnit_findSlot (n : StationNum) : (s.withUnit fifo stage).findSlot n = s.findSlot n := rfl

/-- The operation acts alike whatever the FIFO and the staging words. -/
def Commutes (f : State → State) : Prop :=
  ∀ s fifo stage, f (s.withUnit fifo stage) = (f s).withUnit fifo stage

variable {s fifo stage}

theorem foldl_commutes {α : Type} {f : State → α → State} (hf : ∀ a, Commutes (fun s => f s a)) (l : List α) :
    Commutes (fun s => l.foldl f s) := by
  intro s fifo stage
  induction l generalizing s with
  | nil => rfl
  | cons a l ih =>
    have ha : f (s.withUnit fifo stage) a = (f s a).withUnit fifo stage := hf a s fifo stage
    simp only [List.foldl_cons, ha]
    exact ih (f s a)

theorem changeHeld_commutes (f : Nat → Nat) (h : Holder) : Commutes (changeHeld f h) := by
  intro s fifo stage
  rw [changeHeld_eq, changeHeld_eq]
  rfl

theorem freeGrant_commutes (g : GrantNum) (h : Holder) : Commutes (freeGrant g h) := fun s fifo stage =>
  changeHeld_commutes (fun n => n - 1) h
    { s.setGrant g { gen := (s.grant g).gen + 1, inFlight := 0, body := .free } with
      index := s.index.filter (fun h => h != g)
      freeList := s.freeList ++ [g] } fifo stage

theorem retire_commutes (g : GrantNum) : Commutes (retire g) := by
  intro s fifo stage
  unfold retire
  rw [withUnit_grant]
  cases hb : (s.grant g).body with
  | free | live => rfl
  | closing t c =>
    simp only [freeGrant_commutes g t.holder s fifo stage]
    rfl

theorem setRetireWait_commutes (g : GrantNum) : Commutes (setRetireWait g) := by
  intro s fifo stage
  unfold setRetireWait
  rw [withUnit_grant]
  cases (s.grant g).body <;> rfl

theorem testReady_commutes (g : GrantNum) : Commutes (testReady g) := by
  intro s fifo stage
  have hfree : (s.withUnit fifo stage).slotFree = s.slotFree := rfl
  unfold testReady
  rw [withUnit_grant, hfree, retire_commutes g, setRetireWait_commutes g]
  split
  · split <;> rfl
  · rfl

theorem testReadyAll_commutes (gs : List GrantNum) : Commutes (testReadyAll gs) :=
  foldl_commutes (f := fun s g => testReady g s) testReady_commutes gs

theorem enqueueNotice_commutes (g : GrantNum) (h : Holder) : Commutes (enqueueNotice g h) := by
  intro s fifo stage
  cases h with
  | shared => rfl
  | station n =>
    simp only [enqueueNotice, withUnit_findSlot]
    cases s.findSlot n <;> rfl

theorem closeGrant_commutes (cause : Cause) (g : GrantNum) : Commutes (closeGrant cause g) := by
  intro s fifo stage
  unfold closeGrant
  rw [withUnit_grant]
  cases (s.grant g).body with
  | free | closing => rfl
  | live t =>
    simp only []
    split
    · exact enqueueNotice_commutes g t.holder
        (s.setBody g (.closing t { cause := cause, notice := .queued, retireWait := false })) fifo stage
    · rfl

theorem closeAll_commutes (cause : Cause) (gs : List GrantNum) : Commutes (closeAll cause gs) :=
  foldl_commutes (f := fun s g => closeGrant cause g s) (closeGrant_commutes cause) gs

theorem offerFrame_commutes (sl : SlotNum) : Commutes (offerFrame sl) := by
  intro s fifo stage
  unfold offerFrame
  rw [withUnit_slot]
  cases (s.slot sl).queue with
  | nil => rfl
  | cons g rest =>
    simp only [withUnit_grant]
    cases (s.grant g).body <;> rfl

theorem offerNewHead_commutes (sl : SlotNum) : Commutes (offerNewHead sl) := by
  intro s fifo stage
  have hhead : (s.withUnit fifo stage).headNotice sl = s.headNotice sl := rfl
  have hlink : (s.withUnit fifo stage).link = s.link := rfl
  unfold offerNewHead
  rw [withUnit_slot, hhead, hlink, offerFrame_commutes sl]
  split <;> rfl

theorem txTake_commutes : Commutes txTake := by
  intro s fifo stage
  have hlink : (s.withUnit fifo stage).link = s.link := rfl
  have htx : (s.withUnit fifo stage).tx = s.tx := rfl
  have hreply : (s.withUnit fifo stage).replyQ = s.replyQ := rfl
  have hoffers : (s.withUnit fifo stage).offers = s.offers := rfl
  unfold txTake
  rw [hlink, htx, hreply, hoffers]
  split
  · cases s.replyQ with
    | cons q rest => rfl
    | nil =>
      cases s.offers with
      | nil => rfl
      | cons sl rest =>
        simp only [withUnit_slot]
        cases (s.slot sl).frame <;> rfl
  · rfl

theorem offerForHolder_commutes (h : Holder) : Commutes (offerForHolder h) := by
  intro s fifo stage
  cases h with
  | shared => rfl
  | station n =>
    simp only [offerForHolder, withUnit_findSlot]
    cases s.findSlot n with
    | none => rfl
    | some sl => simp only [offerNewHead_commutes sl s fifo stage, txTake_commutes _ fifo stage]

/-! The execution of each command. -/

/-- An execution with another FIFO and other staging words. -/
def Executed.withUnit (e : Executed) (fifo : List Record) (stage : Record) : Executed :=
  { e with state := e.state.withUnit fifo stage }

theorem insertIndex_withUnit (base : Nat) (g : GrantNum) (l : List GrantNum) :
    (s.withUnit fifo stage).insertIndex base g l = s.insertIndex base g l := by
  induction l with
  | nil => rfl
  | cons h rest ih =>
    have hbefore : (s.withUnit fifo stage).indexBefore base g h = s.indexBefore base g h := rfl
    simp only [State.insertIndex, hbefore, ih]

theorem allocate_commutes (g : GrantNum) (rest : List GrantNum) (t : Terms) : Commutes (allocate g rest t) := by
  intro s fifo stage
  have hindex : (s.withUnit fifo stage).insertIndex t.base g (s.withUnit fifo stage).index =
      s.insertIndex t.base g s.index := insertIndex_withUnit ..
  rw [allocate_eq, allocate_eq, hindex]
  rfl

/-- The execution acts alike whatever the FIFO and the staging words. -/
def ExecutesAlike (f : State → Executed) : Prop :=
  ∀ s fifo stage, f (s.withUnit fifo stage) = (f s).withUnit fifo stage

theorem onLive_alike {grant : BitVec 16} {gen : BitVec 8} {f : State → GrantNum → Terms → Executed}
    (hf : ∀ g t, ExecutesAlike (fun s => f s g t)) : ExecutesAlike (fun s => onLive s grant gen (f s)) := by
  intro s fifo stage
  have hresolve : (s.withUnit fifo stage).resolve grant gen = s.resolve grant gen := rfl
  simp only [onLive, hresolve]
  cases s.resolve grant gen with
  | badRef | stale | closed => rfl
  | live g t => exact hf g t s fifo stage

theorem executeIssue_alike (f : IssueFields) : ExecutesAlike (executeIssue f) := by
  intro s fifo stage
  have hconflict : ∀ t, (s.withUnit fifo stage).firstConflict none t = s.firstConflict none t := fun _ => rfl
  have hrefusal : ∀ h, issueHolderRefusal (s.withUnit fifo stage) h = issueHolderRefusal s h := fun _ => rfl
  have hfree : (s.withUnit fifo stage).freeList = s.freeList := rfl
  have htop : (s.withUnit fifo stage).memTop = s.memTop := rfl
  unfold executeIssue
  cases Rights.ofFlags f.read f.write with
  | none => rfl
  | some rights =>
    simp only [hconflict, hrefusal, hfree, htop, withUnit_grant]
    split
    · rfl
    · split
      · rfl
      · split
        · rfl
        · split
          · rfl
          · split
            · rfl
            · simp only [allocate_commutes _ _ _ s fifo stage]
              rfl

theorem executeAmend_alike (f : AmendFields) : ExecutesAlike (executeAmend f) := by
  refine onLive_alike fun g t s fifo stage => ?_
  have hconflict : ∀ t, (s.withUnit fifo stage).firstConflict (some g) t = s.firstConflict (some g) t := fun _ => rfl
  have htop : (s.withUnit fifo stage).memTop = s.memTop := rfl
  simp only [hconflict, htop, withUnit_grant]
  split
  · rfl
  · split
    · rfl
    · split
      · rfl
      · split <;> rfl

theorem postedNow_withUnit (gs : List GrantNum) : postedNow (s.withUnit fifo stage) gs = postedNow s gs := rfl

theorem executeRevoke_alike (grant : BitVec 16) (gen : BitVec 8) : ExecutesAlike (executeRevoke grant gen) := by
  refine onLive_alike fun g t s fifo stage => ?_
  simp only [closeGrant_commutes .revoked g s fifo stage, offerForHolder_commutes t.holder _ fifo stage,
    postedNow_withUnit, withUnit_grant]
  rfl

theorem executeSweep_alike (station : StationNum) (shared : Bool) : ExecutesAlike (executeSweep station shared) := by
  intro s fifo stage
  have hlive : ∀ h, (s.withUnit fifo stage).liveOf h = s.liveOf h := fun _ => rfl
  unfold executeSweep
  split
  · rw [hlive]
    generalize s.liveOf (holderOf shared station) = gs
    simp only [closeAll_commutes .swept _ s fifo stage, offerForHolder_commutes _ _ fifo stage, postedNow_withUnit,
      withUnit_grant]
    rfl
  · rfl

theorem executeQueryGrant_alike (grant : BitVec 16) (part : BitVec 2) : ExecutesAlike
    (executeQueryGrant grant part) := by
  intro s fifo stage
  unfold executeQueryGrant
  simp only [withUnit_grant]
  split
  · split
    · rfl
    · split <;> rfl
  · rfl

theorem executeQueryLine_alike (line : Word) (skip : BitVec 16) : ExecutesAlike (executeQueryLine line skip) := by
  intro s fifo stage
  have hcovering : ∀ n, (s.withUnit fifo stage).covering n = s.covering n := fun _ => rfl
  unfold executeQueryLine
  simp only [hcovering, withUnit_grant]
  split
  · rfl
  · split <;> rfl

theorem admitOrBar_alike (n : StationNum) (change : Station → Station) (created : Station) :
    ExecutesAlike (admitOrBar n change created) := by
  intro s fifo stage
  have hvacant : (s.withUnit fifo stage).vacantSlot = s.vacantSlot := rfl
  unfold admitOrBar
  simp only [hvacant, withUnit_findSlot]
  split
  · rfl
  · split <;> rfl

theorem executeAdmit_alike (n : StationNum) (quota : BitVec 16) : ExecutesAlike (executeAdmit n quota) := by
  intro s fifo stage
  have hself : (s.withUnit fifo stage).self = s.self := rfl
  unfold executeAdmit
  rw [hself, admitOrBar_alike]
  split <;> rfl

theorem executeBar_alike (n : StationNum) : ExecutesAlike (executeBar n) := by
  intro s fifo stage
  have hself : (s.withUnit fifo stage).self = s.self := rfl
  unfold executeBar
  rw [hself, admitOrBar_alike]
  split <;> rfl

theorem executeForget_alike (n : StationNum) : ExecutesAlike (executeForget n) := by
  intro s fifo stage
  unfold executeForget
  simp only [withUnit_findSlot, withUnit_slot]
  split
  · split
    · rfl
    · split
      · rfl
      · split <;> rfl
  · rfl

theorem executeQueryStation_alike (n : StationNum) (part : BitVec 2) : ExecutesAlike (executeQueryStation n part) := by
  intro s fifo stage
  unfold executeQueryStation
  simp only [withUnit_findSlot, withUnit_slot]
  split
  · rfl
  · split
    · rfl
    · split <;> rfl

theorem executeSetLimits_alike (f : LimitsFields) : ExecutesAlike (executeSetLimits f) := by
  intro s fifo stage
  have hhighest : (s.withUnit fifo stage).highestEnd = s.highestEnd := rfl
  by_cases h : limitsOutOfRange f
  · rw [executeSetLimits_outOfRange h, executeSetLimits_outOfRange h]
    rfl
  · rw [executeSetLimits_inRange h, executeSetLimits_inRange h, hhighest]
    split <;> rfl

theorem executeSetTiming_alike (f : TimingFields) : ExecutesAlike (executeSetTiming f) := by
  intro s fifo stage
  have hperiod : (s.withUnit fifo stage).tickPeriod = s.tickPeriod := rfl
  simp only [executeSetTiming, hperiod]
  split
  · rfl
  · split
    · rfl
    · split <;> rfl

theorem executeHold_alike (freeze : Bool) : ExecutesAlike (executeHold freeze) := by
  intro s fifo stage
  have hhold : (s.withUnit fifo stage).hold = s.hold := rfl
  unfold executeHold
  rw [hhold]
  split <;> rfl

theorem executeResume_alike : ExecutesAlike executeResume := by
  intro s fifo stage
  have hhold : (s.withUnit fifo stage).hold = s.hold := rfl
  unfold executeResume
  rw [hhold]
  split <;> rfl

theorem execute_alike (c : Command) : ExecutesAlike (execute c) := by
  cases c with
  | issue f => exact executeIssue_alike f
  | amend f => exact executeAmend_alike f
  | revoke grant gen => exact executeRevoke_alike grant gen
  | sweep station shared => exact executeSweep_alike station shared
  | queryGrant grant part => exact executeQueryGrant_alike grant part
  | queryLine line skip => exact executeQueryLine_alike line skip
  | admitStation station quota => exact executeAdmit_alike station quota
  | bar station => exact executeBar_alike station
  | forget station => exact executeForget_alike station
  | queryStation station part => exact executeQueryStation_alike station part
  | setLimits f => exact executeSetLimits_alike f
  | setTiming f => exact executeSetTiming_alike f
  | hold freeze => exact executeHold_alike freeze
  | resume => exact executeResume_alike
  | bad code => exact fun _ _ _ => rfl

/-- A command taken acts alike whatever the FIFO behind it and the staging words. -/
theorem runRecord_commutes (r : Record) : Commutes (runRecord r) := by
  intro s fifo stage
  have hrun := testReadyAll_commutes (execute (decodeCommand r) s).ready
    (placeRecord (.cmdDone (Record.code r) (Record.tag r) (execute (decodeCommand r) s).status
      (execute (decodeCommand r) s).w1 (execute (decodeCommand r) s).w2 (execute (decodeCommand r) s).w3)
        (execute (decodeCommand r) s).state) fifo stage
  simp only [runRecord, execute_alike (decodeCommand r) s fifo stage]
  exact hrun

end

/-! ### CQ_ACK -/

/-- With a record removed from a full queue and no backlog, the head of the FIFO is taken, and nothing behind it: its
CMD_DONE record fills the queue again (R141, R166, R169). -/
theorem ackRecord_takes {s : State} {r : Record} {rest : List Record} (hcq : s.cq.length = 64) (hb : s.backlog = [])
    (hfifo : s.fifo = r :: rest) :
    ackRecord s = runRecord r { s with cq := s.cq.tail, fifo := rest } := by
  obtain ⟨x, tail, hx⟩ : ∃ x tail, s.cq = x :: tail := List.exists_cons_of_length_eq_add_one hcq
  have hroom : tail.length = 63 := by
    rw [hx] at hcq
    exact Nat.succ.inj hcq
  have hslot : ({ s with cq := tail } : State).slotFree = true :=
    ({ s with cq := tail } : State).slotFree_iff.2 ⟨hb, by show tail.length < 64; omega⟩
  have hfull : (runRecord r { s with cq := tail, fifo := rest }).slotFree = false := by
    obtain ⟨_, hcq', -⟩ := runRecord_cq r (s := { s with cq := tail, fifo := rest }) hb
    rw [← Bool.not_eq_true, State.slotFree_iff, hcq']
    rintro ⟨-, hlt⟩
    simp only [List.length_append, List.length_cons, hroom] at hlt
    omega
  simp only [ackRecord, hx, List.tail_cons, if_pos hb, hfifo, List.length_cons, takeCommands]
  rw [takeCommand_taken (s := { s with cq := tail, fifo := r :: rest }) rfl hslot, takeCommands_blocked _ hfull]

/-- Settles O16: the slot freed goes to the backlog's head or the FIFO's, and every other command only adds records. -/
theorem cqAckFreesOneSlot : Obligations.CqAckFreesOneSlot := by
  refine ⟨fun v s hreset => ?_, fun c s hwf hack hreset => ?_⟩
  · have hexec : exec (.cqAck v) s = .next (ackRecord s) := event_running hreset
    rw [hexec]
    refine ⟨fun hq => ?_, fun hq hb hf => ?_, fun hq hb => ?_, fun r rest hcq hb hfifo => ?_⟩
    · simp only [ackRecord, hq]
    · obtain ⟨x, tail, hx⟩ := List.exists_cons_of_ne_nil hq
      simp only [ackRecord, hx, if_pos hb, hf]
      rfl
    · obtain ⟨x, tail, hx⟩ := List.exists_cons_of_ne_nil hq
      refine ⟨ackRecord s, rfl, (event_running (s := { s with cq := s.cq.tail }) hreset).trans ?_⟩
      simp only [ackRecord, hx, if_neg hb]
      rfl
    · have hroom : s.cq.tail.length < 64 := by
        rw [List.length_tail]
        omega
      have htake : ({ s with cq := s.cq.tail, fifo := [], stage := r } : State).CanTake := ⟨hreset, rfl, hb, hroom⟩
      refine ⟨runRecord r { s with cq := s.cq.tail, fifo := [], stage := r }, ?_, ?_⟩
      · rw [exec_hostRecord (c := .submit 0) (r := r) rfl, event_running (by exact hreset), submitRecord_taken htake]
      · rw [ackRecord_takes hcq hb hfifo]
        exact congrArg _ (runRecord_commutes r { s with cq := s.cq.tail, fifo := [], stage := r } rest s.stage)
  · obtain ⟨t, hexec, hmoves, -⟩ := exec_moves c s
    exact ⟨t, hexec, hmoves.cqGrows hwf hack hreset⟩

end Sys2Proof.Machine
end


section
/-! PROOFS. Hand-over to the completion queue (R35, R39, R167), for a whole list of grants at once: the tests for
readiness, made one after another, leave what `State.withReady` describes. -/

namespace Sys2Proof.Machine

/-! ### The fields that a hand-over changes -/

/-- A state without the fields that a hand-over changes. -/
def State.unhanded (s : State) : State :=
  { s with
    grants := Vector.replicate 512 Grant.initial
    slots := Vector.replicate 16 Slot.initial
    freeList := []
    index := []
    cq := []
    backlog := []
    alerts := Alerts.clear }

/-- The lists and the alerts that a hand-over changes. -/
def State.handLists (s : State) : List GrantNum × List GrantNum × List Completion × List Event × Alerts :=
  (s.freeList, s.index, s.cq, s.backlog, s.alerts)

/-- Two states that differ in what a hand-over changes at most, and in none of it, are the same. -/
theorem State.eq_of_handed {s t : State} (h : s.unhanded = t.unhanded) (hg : ∀ g, s.grant g = t.grant g)
    (hs : ∀ sl, s.slot sl = t.slot sl) (hl : s.handLists = t.handLists) : s = t := by
  have hgrants := grants_ext hg
  have hslots := slots_ext hs
  simp only [State.handLists, Prod.mk.injEq] at hl
  obtain ⟨hfree, hindex, hcq, hbacklog, halerts⟩ := hl
  cases s
  cases t
  simp only [State.unhanded, State.mk.injEq] at h hgrants hslots hfree hindex hcq hbacklog halerts ⊢
  tauto

section
variable (s : State) (gs : List GrantNum)

@[simp] theorem withRetired_grant (k : GrantNum) :
    (s.withRetired gs).grant k = if k ∈ gs then (s.grant k).freed else s.grant k := by
  simp [State.withRetired, State.grant]

@[simp] theorem withRetired_slot (sl : SlotNum) :
    (s.withRetired gs).slot sl =
      { s.slot sl with
        record := (s.slot sl).record.map (fun r =>
          { r with held := r.held - gs.countP (fun g => s.holderSlot g == some sl) }) } := by
  simp [State.withRetired, State.slot]

@[simp] theorem withRetired_unhanded : (s.withRetired gs).unhanded = s.unhanded := by
  simp only [State.unhanded, State.withRetired]

theorem withRetired_handLists :
    (s.withRetired gs).handLists =
      (s.freeList ++ gs, s.index.filter (fun g => !gs.contains g), s.cq ++ gs.filterMap s.retiredRecord, s.backlog,
        s.alerts) := by
  simp only [State.handLists, State.withRetired]

@[simp] theorem withWaiting_grant (k : GrantNum) :
    (s.withWaiting gs).grant k = if k ∈ gs then (s.grant k).waiting else s.grant k := by
  simp [State.withWaiting, State.grant]

@[simp] theorem withWaiting_slot (sl : SlotNum) : (s.withWaiting gs).slot sl = s.slot sl := by
  simp only [State.slot, State.withWaiting]

@[simp] theorem withWaiting_unhanded : (s.withWaiting gs).unhanded = s.unhanded := by
  simp only [State.unhanded, State.withWaiting]

theorem withWaiting_handLists :
    (s.withWaiting gs).handLists =
      (s.freeList, s.index, s.cq, s.backlog ++ gs.map Event.grant,
        { s.alerts with backlog := s.alerts.backlog || !gs.isEmpty }) := by
  simp only [State.handLists, State.withWaiting]

/-- A retirement names no station anew: the slots found are the same. -/
theorem withRetired_findSlot (n : StationNum) : (s.withRetired gs).findSlot n = s.findSlot n := by
  refine findSlot_congr (fun sl => ?_) n
  rw [withRetired_slot, Slot.number?, Slot.number?, Option.map_map]
  rfl

end

/-- A held count that falls by nothing stays. -/
theorem Station.held_same (o : Option Station) : o.map (fun r => { r with held := r.held - 0 }) = o := by
  cases o <;> rfl

/-! ### No grant, one grant, and grants in turn -/

@[simp] theorem withRetired_nil (s : State) : s.withRetired [] = s := by
  refine State.eq_of_handed (withRetired_unhanded s []) (fun g => by simp) (fun sl => ?_) ?_
  · rw [withRetired_slot, List.countP_nil, Station.held_same]
  · rw [withRetired_handLists]
    simp [State.handLists]

@[simp] theorem withWaiting_nil (s : State) : s.withWaiting [] = s := by
  refine State.eq_of_handed (withWaiting_unhanded s []) (fun g => by simp) (fun sl => by simp) ?_
  rw [withWaiting_handLists]
  simp [State.handLists]

/-- Retirements in turn are retirements at once. -/
theorem withRetired_append {s : State} {as bs : List GrantNum} (h : ∀ g ∈ bs, g ∉ as) :
    (s.withRetired as).withRetired bs = s.withRetired (as ++ bs) := by
  have hgrant : ∀ g ∈ bs, (s.withRetired as).grant g = s.grant g := fun g hg => by
    rw [withRetired_grant, if_neg (h g hg)]
  have hslot : ∀ g ∈ bs, (s.withRetired as).holderSlot g = s.holderSlot g := fun g hg => by
    simp only [State.holderSlot, hgrant g hg, withRetired_findSlot]
  have hrecord : bs.filterMap (s.withRetired as).retiredRecord = bs.filterMap s.retiredRecord :=
    List.filterMap_congr fun g hg => by simp only [State.retiredRecord, hgrant g hg]
  refine State.eq_of_handed (by simp only [withRetired_unhanded]) (fun g => ?_) (fun sl => ?_) ?_
  · by_cases hb : g ∈ bs
    · simp [hb, h g hb]
    · simp [hb]
  · have hcount : bs.countP (fun g => (s.withRetired as).holderSlot g == some sl) =
        bs.countP (fun g => s.holderSlot g == some sl) := List.countP_congr fun g hg => by rw [hslot g hg]
    rw [withRetired_slot, withRetired_slot, withRetired_slot, hcount, Option.map_map]
    simp only [Function.comp_def, List.countP_append, Nat.sub_sub]
  · have hlists := withRetired_handLists s as
    simp only [State.handLists, Prod.mk.injEq] at hlists
    obtain ⟨hfree, hindex, hcq, hbacklog, halerts⟩ := hlists
    have hfilter : ((s.index.filter (fun g => !as.contains g)).filter (fun g => !bs.contains g)) =
        s.index.filter (fun g => !(as ++ bs).contains g) := by
      rw [List.filter_filter]
      refine List.filter_congr fun g _ => ?_
      simp [Bool.and_comm]
    rw [withRetired_handLists, withRetired_handLists, hrecord, hfree, hindex, hcq, hbacklog, halerts, hfilter,
      List.append_assoc, List.append_assoc, List.filterMap_append]

theorem Grant.waiting_waiting (x : Grant) : x.waiting.waiting = x.waiting := by
  obtain ⟨gen, inFlight, body⟩ := x
  cases body <;> rfl

/-- Grants that join the backlog in turn join it at once. -/
theorem withWaiting_append (s : State) (as bs : List GrantNum) :
    (s.withWaiting as).withWaiting bs = s.withWaiting (as ++ bs) := by
  refine State.eq_of_handed (by simp only [withWaiting_unhanded]) (fun g => ?_) (fun sl => by simp) ?_
  · by_cases ha : g ∈ as <;> by_cases hb : g ∈ bs <;> simp [ha, hb, Grant.waiting_waiting]
  · have hlists := withWaiting_handLists s as
    simp only [State.handLists, Prod.mk.injEq] at hlists
    obtain ⟨hfree, hindex, hcq, hbacklog, halerts⟩ := hlists
    rw [withWaiting_handLists, withWaiting_handLists, hfree, hindex, hcq, hbacklog, halerts, List.map_append,
      List.append_assoc]
    cases as <;> simp

/-! ### One grant -/

/-- The slot of a grant's holder (R46). -/
theorem State.holderSlot_of_terms {s : State} {g : GrantNum} {t : Terms} (h : (s.grant g).body.terms? = some t) :
    s.holderSlot g = s.slotOf t.holder := by
  rw [State.holderSlot, Body.holder?, h, Option.map_some]
  cases t.holder <;> rfl

/-- A held count's change, slot by slot (R21). -/
theorem changeHeld_slot (f : Nat → Nat) (h : Holder) (s : State) (k : SlotNum) :
    (changeHeld f h s).slot k =
      if s.slotOf h = some k then
        { s.slot k with record := (s.slot k).record.map (fun r => { r with held := f r.held }) }
      else s.slot k := by
  rw [changeHeld_eq]
  simp [State.slot]

/-- An entry's freeing, slot by slot (R22, step 4). -/
theorem freeGrant_slot (g : GrantNum) (h : Holder) (s : State) (k : SlotNum) :
    (freeGrant g h s).slot k =
      if s.slotOf h = some k then
        { s.slot k with record := (s.slot k).record.map (fun r => { r with held := r.held - 1 }) }
      else s.slot k :=
  changeHeld_slot (fun n => n - 1) h
    { s.setGrant g { gen := (s.grant g).gen + 1, inFlight := 0, body := .free } with
      index := s.index.filter (fun h => h != g)
      freeList := s.freeList ++ [g] } k

/-- A CLOSING grant retires as described (R39). -/
theorem retire_eq {s : State} {g : GrantNum} {t : Terms} {c : Closing} (hb : (s.grant g).body = .closing t c) :
    retire g s = s.withRetired [g] := by
  have hholder : s.holderSlot g = s.slotOf t.holder := State.holderSlot_of_terms (by rw [hb]; rfl)
  obtain ⟨_, _, _, _, honly⟩ := freeGrant_only g t.holder s
  rw [retire_closing hb]
  refine State.eq_of_handed ?_ (fun k => ?_) (fun sl => ?_) ?_
  · rw [withRetired_unhanded, honly]
    rfl
  · rw [State.grant_placeRecord_other, freeGrant_grant, withRetired_grant]
    simp only [List.mem_singleton, eq_comm (a := g)]
    split
    · next h => rw [h]; rfl
    · rfl
  · rw [State.slot_placeRecord_other, withRetired_slot, freeGrant_slot, List.countP_singleton, hholder]
    by_cases h : s.slotOf t.holder = some sl
    · simp only [h, beq_self_eq_true, if_true]
    · simp only [h, beq_iff_eq, if_false, Station.held_same]
  · have hindex : s.index.filter (fun h => h != g) = s.index.filter (fun h => !([g].contains h)) :=
      List.filter_congr fun h _ => by simp [bne, beq_eq_decide]
    have hrest : (freeGrant g t.holder s).cq = s.cq ∧ (freeGrant g t.holder s).backlog = s.backlog ∧
        (freeGrant g t.holder s).alerts = s.alerts := by
      rw [honly]
      exact ⟨rfl, rfl, rfl⟩
    obtain ⟨hcq, hbacklog, halerts⟩ := hrest
    rw [withRetired_handLists, State.handLists, placeRecord_cq, placeRecord_freeList, placeRecord_index,
      placeRecord_backlog, placeRecord_alerts, freeGrant_freeList, freeGrant_index, hindex, hcq, hbacklog, halerts]
    simp only [List.filterMap_cons, List.filterMap_nil, State.retiredRecord, hb]

/-- A CLOSING grant joins the backlog as described (R35). -/
theorem wait_eq (g : GrantNum) (s : State) : joinBacklog (.grant g) (setRetireWait g s) = s.withWaiting [g] := by
  obtain ⟨_, honly⟩ := setRetireWait_only g s
  refine State.eq_of_handed ?_ (fun k => ?_) (fun sl => ?_) ?_
  · rw [withWaiting_unhanded, honly]
    rfl
  · rw [State.grant_joinBacklog_other, setRetireWait_grant, withWaiting_grant]
    simp only [List.mem_singleton, eq_comm (a := g)]
  · rw [State.slot_joinBacklog_other, setRetireWait_slot, withWaiting_slot]
  · rw [withWaiting_handLists, honly]
    simp [State.handLists, joinBacklog]

/-! ### Grants found ready -/

/-- The notice states that are finished (R5). -/
theorem Notice.finished_iff (n : Notice) :
    n.finished = true ↔ n = .notDue ∨ n = .acked ∨ n = .unacked ∨ n = .abandoned := by
  cases n <;> simp [Notice.finished]

/-- A grant is ready as the statement puts it (R35). -/
theorem Grant.isReady_eq (x : Grant) :
    x.isReady =
      match x.body with
      | .closing _ c =>
        decide (x.inFlight = 0 ∧ c.retireWait = false ∧
          (c.notice = .notDue ∨ c.notice = .acked ∨ c.notice = .unacked ∨ c.notice = .abandoned))
      | .free | .live _ => false := by
  unfold Grant.isReady
  cases x.body with
  | free | live => rfl
  | closing t c =>
    rw [Bool.eq_iff_iff]
    simp only [Bool.and_eq_true, beq_iff_eq, Bool.not_eq_true', decide_eq_true_eq, Notice.finished_iff, and_assoc]
    exact and_congr_right fun _ => and_comm

/-- The grants of a list that are ready (R35). -/
theorem State.readyAmong_eq (s : State) (gs : List GrantNum) :
    s.readyAmong gs = gs.filter (fun g => (s.grant g).isReady) := by
  refine List.filter_congr fun g _ => ?_
  refine Eq.trans ?_ (s.grant g).isReady_eq.symm
  cases (s.grant g).body <;> rfl

/-- With a slot free, the first grant of a list has room, and those behind it what is then left (R167). -/
theorem room_succ_of_free {s t : State} (hfree : s.slotFree = true) (hb : t.backlog = s.backlog)
    (hcq : t.cq.length = s.cq.length + 1) (n : Nat) : s.room (n + 1) = t.room n + 1 := by
  obtain ⟨hempty, hlt⟩ := s.slotFree_iff.1 hfree
  rw [State.room, State.room, hb, if_pos hempty, if_pos hempty, hcq]
  omega

/-- With no slot free there is room for no grant (R167). -/
theorem room_of_blocked {s : State} (hfree : s.slotFree = false) (n : Nat) : s.room n = 0 := by
  rw [State.room]
  split
  · next hempty =>
    have hnot := mt s.slotFree_iff.2 (by simp [hfree])
    have hle : ¬ s.cq.length < 64 := fun h => hnot ⟨hempty, h⟩
    omega
  · rfl

/-- A retirement's records: one for a CLOSING grant. -/
theorem withRetired_singleton {s : State} {g : GrantNum} {t : Terms} {c : Closing}
    (hb : (s.grant g).body = .closing t c) :
    (s.withRetired [g]).backlog = s.backlog ∧ (s.withRetired [g]).cq.length = s.cq.length + 1 := by
  refine ⟨by simp only [State.withRetired], ?_⟩
  simp only [State.withRetired, List.filterMap_cons, List.filterMap_nil, State.retiredRecord, hb, List.length_append,
    List.length_singleton]

/-- No ready grant: nothing is handed over. -/
@[simp] theorem withReady_nil (s : State) : s.withReady [] = s := by
  simp [State.withReady]

/-- The first of some ready grants retires, and then the others are handed over (R35, R39). -/
theorem withReady_cons_free {s : State} {g : GrantNum} {gs : List GrantNum} (hready : (s.grant g).isReady = true)
    (hfree : s.slotFree = true) (hg : g ∉ gs) : (s.withRetired [g]).withReady gs = s.withReady (g :: gs) := by
  obtain ⟨t, c, hb, -⟩ := Grant.isReady_closing hready
  obtain ⟨hbacklog, hcq⟩ := withRetired_singleton hb
  rw [State.withReady, State.withReady, List.length_cons, room_succ_of_free hfree hbacklog hcq, List.take_succ_cons,
    List.drop_succ_cons, withRetired_append]
  · rfl
  · intro k hk
    rw [List.mem_singleton]
    rintro rfl
    exact hg (List.mem_of_mem_take hk)

/-- The first of some ready grants joins the backlog, and so do the others (R35, R167). -/
theorem withReady_cons_blocked {s : State} {g : GrantNum} {gs : List GrantNum} (hfree : s.slotFree = false) :
    (s.withWaiting [g]).withReady gs = s.withReady (g :: gs) := by
  have hfree' : (s.withWaiting [g]).slotFree = false := by
    rw [← Bool.not_eq_true, State.slotFree_iff]
    rintro ⟨hempty, -⟩
    simp [State.withWaiting] at hempty
  rw [State.withReady, State.withReady, room_of_blocked hfree, room_of_blocked hfree']
  simp only [List.take_zero, List.drop_zero, withRetired_nil, withWaiting_append, List.singleton_append]

/-- The test of one grant, as described (R35, R39, R167). -/
theorem testReady_cases (g : GrantNum) (s : State) :
    ((s.grant g).isReady = false ∧ testReady g s = s) ∨
      ((s.grant g).isReady = true ∧ s.slotFree = true ∧ testReady g s = s.withRetired [g]) ∨
      ((s.grant g).isReady = true ∧ s.slotFree = false ∧ testReady g s = s.withWaiting [g]) := by
  cases hready : (s.grant g).isReady with
  | false => exact .inl ⟨rfl, testReady_not_ready hready⟩
  | true =>
    cases hfree : s.slotFree with
    | false => exact .inr (.inr ⟨rfl, rfl, (testReady_waits hready hfree).trans (wait_eq g s)⟩)
    | true =>
      obtain ⟨t, c, hb, -⟩ := Grant.isReady_closing hready
      exact .inr (.inl ⟨rfl, rfl, (testReady_retires hready hfree).trans (retire_eq hb)⟩)

/-- Tests in turn of grants of which none comes twice, as described (R35, R39, R167). -/
theorem testReadyAll_eq {gs : List GrantNum} (hgs : gs.Nodup) (s : State) :
    testReadyAll gs s = s.withReady (s.readyAmong gs) := by
  induction gs generalizing s with
  | nil => exact (withReady_nil s).symm
  | cons g gs ih =>
    obtain ⟨hg, hnodup⟩ := List.nodup_cons.1 hgs
    have hready : ∀ {t : State}, (∀ k ∈ gs, t.grant k = s.grant k) → t.readyAmong gs = s.readyAmong gs := fun h => by
      rw [State.readyAmong_eq, State.readyAmong_eq]
      exact List.filter_congr fun k hk => by rw [h k hk]
    have hother : ∀ k ∈ gs, k ∉ [g] := fun k hk h => hg (List.mem_singleton.1 h ▸ hk)
    have hmem : g ∉ s.readyAmong gs := fun h => hg (List.mem_filter.1 h).1
    rw [testReadyAll_cons, ih hnodup]
    obtain ⟨hnot, heq⟩ | ⟨hyes, hfree, heq⟩ | ⟨hyes, hfree, heq⟩ := testReady_cases g s
    · rw [heq, s.readyAmong_eq (g :: gs), List.filter_cons_of_neg (by simp [hnot]), ← s.readyAmong_eq]
    · rw [heq, hready (fun k hk => by rw [withRetired_grant, if_neg (hother k hk)]),
        withReady_cons_free hyes hfree hmem, s.readyAmong_eq (g :: gs), List.filter_cons_of_pos (by exact hyes), ←
          s.readyAmong_eq]
    · rw [heq, hready (fun k hk => by rw [withWaiting_grant, if_neg (hother k hk)]),
        withReady_cons_blocked hfree, s.readyAmong_eq (g :: gs), List.filter_cons_of_pos (by exact hyes), ←
          s.readyAmong_eq]

/-- The test of one grant, as described (R35, R39, R167). -/
theorem testReady_eq (g : GrantNum) (s : State) : testReady g s = s.withReady (s.readyAmong [g]) :=
  testReadyAll_eq (List.nodup_singleton g) s

/-- Settles O52: the test of one grant, and Hold Control's test. -/
theorem grantReadyAndDrainEnd : Obligations.GrantReadyAndDrainEnd := by
  intro s hreset
  have hexec : ∀ g, exec (.grantReady g) s = .next (s.withReady (s.readyAmong [g])) := fun g => by
    rw [← testReady_eq]
    exact event_running hreset
  refine ⟨fun g => ⟨hexec g, fun hnone => ?_⟩, ?_⟩
  · rw [hexec g, hnone, withReady_nil]
  · rw [← drainTest_eq_withDrainTest]
    exact event_running hreset

/-! ### The head of the backlog -/

/-- Settles O17: the head of the backlog is placed with the effects of its kind. -/
theorem backlogPlacePlacesHead : Obligations.BacklogPlacePlacesHead := by
  intro s hreset
  have hexec : exec .backlogPlace s = .next (placeBacklogHead s) := event_running hreset
  refine ⟨fun hnothing => ?_, fun rest hroom => ⟨fun g t c hq hb => ?_, fun sl r hq hr => ?_, fun sl r w hq hr hw => ?_,
    fun hq => ?_⟩⟩
  · rw [hexec]
    unfold placeBacklogHead
    split
    · rfl
    · next hq =>
      obtain hempty | hfull := hnothing
      · rw [hempty] at hq
        cases hq
      · exact congrArg _ (if_neg (Nat.not_lt.2 hfull))
  all_goals
    have hplace : ∀ e, s.backlog = e :: rest → placeBacklogHead s = placeEvent e { s with backlog := rest } :=
      fun e he => by simp only [placeBacklogHead, he]; exact if_pos hroom
    rw [hexec, hplace _ hq]
    refine congrArg _ ?_
  · exact retire_eq (s := { s with backlog := rest }) hb
  · have hr' : (({ s with backlog := rest } : State).slot sl).record = some r := hr
    simp only [placeEvent, hr', State.modifyRecord_eq_withRecord _ hr']
    rfl
  · have hr' : (({ s with backlog := rest } : State).slot sl).record = some r := hr
    simp only [placeEvent, hr', hw, State.modifyRecord_eq_withRecord _ hr']
    rfl
  · rfl

end Sys2Proof.Machine
end


section
/-! PROOFS. Closing (R32, R110) and the offers of notice frames (R111, R134) for whole lists at once: closing acts one
after another leave what `State.withClosed` describes, and offers in one event what `State.withOffers` does. -/

namespace Sys2Proof.Machine

/-! ### Closing acts -/

/-- Two states that differ in the grant and station tables at most, and in no record, are the same. -/
theorem State.eq_of_grants_slots {s t : State} (hg : ∀ g, s.grant g = t.grant g) (hs : ∀ sl, s.slot sl = t.slot sl)
    (h : { s with grants := t.grants, slots := t.slots } = t) : s = t := by
  rw [← grants_ext hg, ← slots_ext hs] at h
  exact h

/-- `t` differs from `s` in the grant and station tables at most. -/
def State.OtherTables (s t : State) : Prop := ∃ grants slots, t = { s with grants := grants, slots := slots }

theorem State.OtherTables.refl (s : State) : s.OtherTables s := ⟨s.grants, s.slots, rfl⟩

theorem State.OtherTables.trans {s t u : State} (h : s.OtherTables t) (h' : t.OtherTables u) : s.OtherTables u := by
  obtain ⟨_, _, rfl⟩ := h
  obtain ⟨grants, slots, rfl⟩ := h'
  exact ⟨grants, slots, rfl⟩

/-- Two states with the fields of a third beside the tables, and the same grants and slots, are the same. -/
theorem State.eq_of_otherTables {s t u : State} (ht : s.OtherTables t) (hu : s.OtherTables u)
    (hg : ∀ g, t.grant g = u.grant g) (hs : ∀ sl, t.slot sl = u.slot sl) : t = u := by
  have hgrants := grants_ext hg
  have hslots := slots_ext hs
  obtain ⟨_, _, rfl⟩ := ht
  obtain ⟨_, _, rfl⟩ := hu
  simp only [] at hgrants hslots
  rw [hgrants, hslots]

section
variable (s : State) (cause : Cause) (gs : List GrantNum)

theorem withClosed_otherTables : s.OtherTables (s.withClosed cause gs) := ⟨_, _, rfl⟩

@[simp] theorem withClosed_grant (k : GrantNum) :
    (s.withClosed cause gs).grant k = if k ∈ gs then (s.grant k).closed cause else s.grant k := by
  simp [State.withClosed, State.grant]

@[simp] theorem withClosed_slot (sl : SlotNum) :
    (s.withClosed cause gs).slot sl =
      { s.slot sl with
        queue := (s.slot sl).queue ++ gs.filter (fun g => (s.grant g).owes cause && s.holderSlot g == some sl) } := by
  simp [State.withClosed, State.slot]

theorem withClosed_findSlot (n : StationNum) : (s.withClosed cause gs).findSlot n = s.findSlot n :=
  findSlot_congr (fun sl => by rw [withClosed_slot]; rfl) n

end

@[simp] theorem withClosed_nil (s : State) (cause : Cause) : s.withClosed cause [] = s := by
  exact State.eq_of_otherTables (withClosed_otherTables s cause []) (.refl s) (fun g => by simp) (fun sl => by simp)

/-- Closing acts in turn are closing acts at once. -/
theorem withClosed_append {s : State} {cause : Cause} {as bs : List GrantNum} (h : ∀ g ∈ bs, g ∉ as) :
    (s.withClosed cause as).withClosed cause bs = s.withClosed cause (as ++ bs) := by
  have hgrant : ∀ g ∈ bs, (s.withClosed cause as).grant g = s.grant g := fun g hg => by
    rw [withClosed_grant, if_neg (h g hg)]
  refine State.eq_of_otherTables ((withClosed_otherTables s cause as).trans (withClosed_otherTables _ cause bs))
    (withClosed_otherTables s cause (as ++ bs)) (fun g => ?_) (fun sl => ?_)
  · by_cases hb : g ∈ bs
    · simp [hb, h g hb]
    · simp [hb]
  · have hfilter : bs.filter (fun g => ((s.withClosed cause as).grant g).owes cause &&
        (s.withClosed cause as).holderSlot g == some sl) =
          bs.filter (fun g => (s.grant g).owes cause && s.holderSlot g == some sl) :=
      List.filter_congr fun g hg => by simp only [State.holderSlot, hgrant g hg, withClosed_findSlot]
    rw [withClosed_slot, withClosed_slot, withClosed_slot, hfilter, List.filter_append, List.append_assoc]

/-- A notice's entry into its holder's queue, slot by slot (R110). -/
theorem enqueueNotice_slotOf (g : GrantNum) (h : Holder) (s : State) (k : SlotNum) :
    (enqueueNotice g h s).slot k =
      if s.slotOf h = some k then { s.slot k with queue := (s.slot k).queue ++ [g] } else s.slot k := by
  cases h with
  | shared => rfl
  | station n =>
    cases hn : s.findSlot n with
    | none => simp only [enqueueNotice, State.slotOf, hn, reduceCtorEq, if_false]
    | some sl =>
      simp only [enqueueNotice, State.slotOf, hn, State.slot_setSlot, Option.some.injEq]
      split
      · next e => rw [e]
      · rfl

/-- The closing act on one grant, as described (R32, R110). -/
theorem closeGrant_eq (cause : Cause) (g : GrantNum) (s : State) : closeGrant cause g s = s.withClosed cause [g] := by
  obtain ⟨_, _, honly⟩ := closeGrant_only cause g s
  refine State.eq_of_grants_slots (fun k => ?_) (fun sl => ?_) (by rw [honly]; simp only [State.withClosed])
  · rw [closeGrant_grant, withClosed_grant]
    simp only [List.mem_singleton, eq_comm (a := g)]
  · rw [withClosed_slot]
    cases hb : (s.grant g).body with
    | free | closing => simp [closeGrant, Grant.owes, hb]
    | live t =>
      have hholder : s.holderSlot g = s.slotOf t.holder := State.holderSlot_of_terms (by rw [hb]; rfl)
      have howes := Grant.owes_live hb cause
      cases hd : noticeDue cause t with
      | false => simp [closeGrant_not_due hb hd, howes, hd]
      | true =>
        rw [closeGrant_due hb hd, enqueueNotice_slotOf, List.filter_singleton, howes, hd, hholder]
        have hslot : ∀ b, (s.setBody g b).slotOf t.holder = s.slotOf t.holder := fun _ => by cases t.holder <;> rfl
        rw [hslot, State.slot_setBody_other]
        by_cases h : s.slotOf t.holder = some sl
        · simp [h]
        · simp [h, beq_eq_false_iff_ne.2 h]

/-- Closing acts in turn on grants of which none comes twice, as described (R32, R110). -/
theorem closeAll_eq (cause : Cause) {gs : List GrantNum} (hgs : gs.Nodup) (s : State) :
    closeAll cause gs s = s.withClosed cause gs := by
  induction gs generalizing s with
  | nil => exact (withClosed_nil s cause).symm
  | cons g gs ih =>
    obtain ⟨hg, hnodup⟩ := List.nodup_cons.1 hgs
    have hdisjoint : ∀ k ∈ gs, k ∉ [g] := fun k hk h => hg (List.mem_singleton.1 h ▸ hk)
    refine (ih hnodup (closeGrant cause g s)).trans ?_
    rw [closeGrant_eq, withClosed_append hdisjoint]
    rfl

/-! ### Offers -/

/-- `s` with the frames of the heads of the slots `due` offered, and none of them taken yet (R111, R112). -/
def State.withOffered (s : State) (due : List SlotNum) : State :=
  { s with
    slots := Vector.ofFn (fun k : SlotNum =>
      if k ∈ due then { s.slot k with frame := (s.headFrame k).elim .none .offered } else s.slot k)
    offers := s.offers ++ due }

@[simp] theorem withOffered_slot (s : State) (due : List SlotNum) (k : SlotNum) :
    (s.withOffered due).slot k =
      if k ∈ due then { s.slot k with frame := (s.headFrame k).elim .none .offered } else s.slot k := by
  simp [State.withOffered, State.slot]

theorem withOffered_grant (s : State) (due : List SlotNum) (g : GrantNum) :
    (s.withOffered due).grant g = s.grant g := by
  simp only [State.grant, State.withOffered]

theorem withOffered_queue (s : State) (due : List SlotNum) (k : SlotNum) :
    ((s.withOffered due).slot k).queue = (s.slot k).queue := by
  rw [withOffered_slot]
  split <;> rfl

theorem withOffered_self (s : State) (due : List SlotNum) : (s.withOffered due).self = s.self := by
  simp only [State.withOffered]

theorem withOffered_headFrame (s : State) (due : List SlotNum) (k : SlotNum) :
    (s.withOffered due).headFrame k = s.headFrame k := by
  simp only [State.headFrame, withOffered_queue, withOffered_grant, withOffered_self]

theorem withOffered_headNotice (s : State) (due : List SlotNum) (k : SlotNum) :
    (s.withOffered due).headNotice k = s.headNotice k := by
  simp only [State.headNotice, withOffered_queue, withOffered_grant]

/-- Two states that differ in the station table at most, and in no slot, are the same. -/
theorem State.eq_of_slots {s t : State} (hs : ∀ sl, s.slot sl = t.slot sl) (h : { s with slots := t.slots } = t) :
    s = t := by
  rw [← slots_ext hs] at h
  exact h

@[simp] theorem withOffered_nil (s : State) : s.withOffered [] = s := by
  refine State.eq_of_slots (fun k => by simp) ?_
  simp only [State.withOffered, List.append_nil]

/-- Offers in turn are offers at once. -/
theorem withOffered_append (s : State) (as bs : List SlotNum) :
    (s.withOffered as).withOffered bs = s.withOffered (as ++ bs) := by
  refine State.eq_of_slots (fun k => ?_) ?_
  · rw [withOffered_slot, withOffered_headFrame, withOffered_slot, withOffered_slot]
    by_cases ha : k ∈ as <;> by_cases hb : k ∈ bs <;> simp [ha, hb]
  · simp only [State.withOffered, List.append_assoc]

/-- A head with a notice state has a frame (R112). -/
theorem headFrame_of_headNotice {s : State} {sl : SlotNum} {n : Notice} (h : s.headNotice sl = some n) :
    ∃ f, s.headFrame sl = some f := by
  unfold State.headNotice at h
  unfold State.headFrame
  cases hq : (s.slot sl).queue with
  | nil => rw [hq] at h; cases h
  | cons g rest =>
    rw [hq] at h
    simp only [] at h ⊢
    cases hb : (s.grant g).body with
    | free | live => rw [hb] at h; cases h
    | closing t c => exact ⟨_, rfl⟩

/-- The frame of a head in CLOSING is offered as described (R111, R112). -/
theorem offerFrame_eq {sl : SlotNum} {s : State} {f : NoticeFrame} (h : s.headFrame sl = some f) :
    offerFrame sl s = s.withOffered [sl] := by
  have hframe := h
  unfold State.headFrame at hframe
  cases hq : (s.slot sl).queue with
  | nil => rw [hq] at hframe; cases hframe
  | cons g rest =>
    rw [hq] at hframe
    simp only [] at hframe
    cases hb : (s.grant g).body with
    | free | live => rw [hb] at hframe; cases hframe
    | closing t c =>
      rw [hb] at hframe
      have hoffer : offerFrame sl s = { s.setSlot sl { s.slot sl with frame := .offered f } with
          offers := s.offers ++ [sl] } := by
        have hbuilt : noticeFrame s g t c = f := by
          rw [← Option.some.inj hframe, noticeFrame]
          cases c.notice <;> rfl
        simp only [offerFrame, hq, hb, hbuilt]
      rw [hoffer]
      refine State.eq_of_slots (fun k => ?_) (by simp only [State.withOffered, State.setSlot])
      rw [withOffered_slot]
      change (s.setSlot sl _).slot k = _
      rw [State.slot_setSlot]
      by_cases hk : sl = k
      · subst hk
        simp [h]
      · simp [hk, Ne.symm hk]

/-- What is done slot by slot, to each slot by what stands in it, is done to all those slots: `X l` is the state once
it is done to the slots `l`. -/
theorem foldl_collects {f : SlotNum → State → State} {p : SlotNum → Bool} {X : List SlotNum → State}
    (hf : ∀ done sl, sl ∉ done → f sl (X done) = if p sl = true then X (done ++ [sl]) else X done)
    {l : List SlotNum} (hl : l.Nodup) {done : List SlotNum} (hdone : ∀ k ∈ l, k ∉ done) :
    l.foldl (fun s sl => f sl s) (X done) = X (done ++ l.filter p) := by
  induction l generalizing done with
  | nil => simp
  | cons sl l ih =>
    obtain ⟨hsl, hnodup⟩ := List.nodup_cons.1 hl
    rw [List.foldl_cons, hf done sl (hdone sl List.mem_cons_self)]
    cases hp : p sl with
    | false =>
      rw [if_neg (by simp), ih hnodup fun k hk => hdone k (List.mem_cons_of_mem sl hk),
        List.filter_cons_of_neg (by simp [hp])]
    | true =>
      have hdone' : ∀ k ∈ l, k ∉ done ++ [sl] := fun k hk h => by
        obtain h | h := List.mem_append.1 h
        · exact hdone k (List.mem_cons_of_mem sl hk) h
        · exact hsl (List.mem_singleton.1 h ▸ hk)
      rw [if_pos rfl, ih hnodup hdone', List.filter_cons_of_pos hp, List.append_assoc]
      rfl

theorem forSlots_collects {f : SlotNum → State → State} {p : SlotNum → Bool} {X : List SlotNum → State}
    (hf : ∀ done sl, sl ∉ done → f sl (X done) = if p sl = true then X (done ++ [sl]) else X done) :
    forSlots f (X []) = X ((List.finRange 16).filter p) :=
  foldl_collects hf (List.nodup_finRange 16) (fun _ _ => List.not_mem_nil)

/-- Offers slot by slot, each due by what stands in its own slot, are the due offers at once. -/
theorem forSlots_offers {f : SlotNum → State → State} {p : SlotNum → Bool} {s : State}
    (hf : ∀ done sl, sl ∉ done →
      f sl (s.withOffered done) = if p sl = true then (s.withOffered done).withOffered [sl] else s.withOffered done) :
    forSlots f s = s.withOffered ((List.finRange 16).filter p) := by
  have h := forSlots_collects (X := s.withOffered) fun done sl hsl => by
    rw [← withOffered_append]
    exact hf done sl hsl
  rwa [withOffered_nil] at h

/-- A transmitter with nothing to take takes nothing (R134). -/
theorem txTake_of_eager {s : State} (h : s.TransmitterEager) : txTake s = s := by
  by_cases hl : s.link = .up
  · by_cases ht : s.tx = .free
    · obtain ⟨hreply, hoffers⟩ := h hl ht
      exact txTake_idle hreply hoffers
    · exact txTake_busy ht
  · exact txTake_link_not_up hl

/-- Offers to a transmitter that is not free are no more than offers. -/
theorem withOffers_busy {s : State} (h : s.tx ≠ .free) (due : List SlotNum) : s.withOffers due = s.withOffered due := by
  unfold State.withOffers State.withOffered
  split
  · next hfree => exact absurd hfree h
  · rfl

theorem withOffers_nil (s : State) : s.withOffers [] = s := by
  refine Eq.trans ?_ (withOffered_nil s)
  unfold State.withOffers State.withOffered
  split
  · next h => cases h
  · rfl

/-- Of the offers to a free transmitter it takes the first. -/
theorem withOffers_free {s : State} {sl : SlotNum} {rest : List SlotNum} {f : NoticeFrame} (h : s.tx = .free)
    (hf : s.headFrame sl = some f) :
    s.withOffers (sl :: rest) =
      { s with
        slots := Vector.ofFn (fun k : SlotNum =>
          if k = sl then { s.slot k with frame := .sending }
          else if k ∈ rest then { s.slot k with frame := (s.headFrame k).elim .none .offered } else s.slot k)
        tx := .notice (some sl) f
        offers := s.offers ++ rest } := by
  simp only [State.withOffers, h, hf, Option.elim_some]

theorem slot_with_tx_offers (s : State) (tx : Tx) (offers : List SlotNum) (k : SlotNum) :
    ({ s with tx := tx, offers := offers } : State).slot k = s.slot k := rfl

theorem slot_with_slots (s : State) (f : SlotNum → Slot) (k : SlotNum) :
    ({ s with slots := Vector.ofFn f } : State).slot k = f k := by
  simp [State.slot]

theorem withOffered_keeps (s : State) (due : List SlotNum) :
    (s.withOffered due).link = s.link ∧ (s.withOffered due).tx = s.tx ∧ (s.withOffered due).replyQ = s.replyQ := by
  simp only [State.withOffered, and_self]

/-- The transmitter chooses after due offers, having had nothing to send before: a free one takes the first (R134). -/
theorem txTake_withOffered {s : State} {due : List SlotNum} (he : s.TransmitterEager)
    (hl : due ≠ [] → s.link = .up) (hf : ∀ sl ∈ due, ∃ f, s.headFrame sl = some f) :
    txTake (s.withOffered due) = s.withOffers due := by
  cases due with
  | nil =>
    rw [withOffers_nil, withOffered_nil, txTake_of_eager he]
  | cons sl rest =>
    have hup := hl (List.cons_ne_nil sl rest)
    by_cases htx : s.tx = .free
    · obtain ⟨hreply, hoffers⟩ := he hup htx
      obtain ⟨f, hframe⟩ := hf sl List.mem_cons_self
      have hslot : ((s.withOffered (sl :: rest)).slot sl).frame = .offered f := by
        rw [withOffered_slot, if_pos List.mem_cons_self, hframe]
        rfl
      have hlist : (s.withOffered (sl :: rest)).offers = sl :: rest := by
        simp only [State.withOffered, hoffers, List.nil_append]
      obtain ⟨hlink', htx', hreply'⟩ := withOffered_keeps s (sl :: rest)
      rw [txTake_notice (hlink'.trans hup) (htx'.trans htx) (hreply'.trans hreply) hlist hslot,
        withOffers_free htx hframe]
      refine State.eq_of_slots (fun k => ?_) ?_
      · rw [slot_with_tx_offers, State.slot_setSlot, withOffered_slot, withOffered_slot]
        refine Eq.trans ?_ (slot_with_slots { s with tx := .notice (some sl) f, offers := s.offers ++ rest } _ k).symm
        by_cases hk : sl = k
        · subst hk
          simp
        · simp [hk, Ne.symm hk]
      · simp only [State.withOffered, State.setSlot, hoffers, List.nil_append]
    · rw [txTake_busy fun h => htx ((withOffered_keeps s (sl :: rest)).2.1.symm.trans h), withOffers_busy htx]

/-! ### New heads -/

/-- A slot with a new head (R111). -/
theorem State.mem_newHeads {s : State} {sl : SlotNum} :
    sl ∈ s.newHeads ↔ s.link = .up ∧ (s.slot sl).frame = .none ∧ s.headNotice sl = some .queued := by
  simp [State.newHeads]

/-- The frame of a new head is offered as described, and no other (R111). -/
theorem offerNewHead_eq (sl : SlotNum) (s : State) :
    offerNewHead sl s = if sl ∈ s.newHeads then s.withOffered [sl] else s := by
  unfold offerNewHead
  by_cases h : s.link = .up ∧ (s.slot sl).frame = .none ∧ s.headNotice sl = some .queued
  · obtain ⟨f, hf⟩ := headFrame_of_headNotice h.2.2
    rw [if_pos h, if_pos (State.mem_newHeads.2 h), offerFrame_eq hf]
  · rw [if_neg h, if_neg (mt State.mem_newHeads.1 h)]

/-- The offers of a slot leave the other slots' heads as they are. -/
theorem mem_newHeads_withOffered {s : State} {done : List SlotNum} {sl : SlotNum} (h : sl ∉ done) :
    sl ∈ (s.withOffered done).newHeads ↔ sl ∈ s.newHeads := by
  have hlink : (s.withOffered done).link = s.link := by simp only [State.withOffered]
  rw [State.mem_newHeads, State.mem_newHeads, withOffered_headNotice, withOffered_slot, if_neg h, hlink]

theorem newHeads_nodup (s : State) : s.newHeads.Nodup := (List.nodup_finRange 16).filter _

/-- The frames of all new heads are offered as described (R111). -/
theorem forSlots_offerNewHead (s : State) : forSlots offerNewHead s = s.withOffered s.newHeads := by
  refine forSlots_offers fun done sl hsl => ?_
  rw [offerNewHead_eq]
  refine if_congr ((mem_newHeads_withOffered hsl).trans ?_) rfl rfl
  simp [State.newHeads]

/-- The frame of a new head is offered and the transmitter chooses, as described (R111, R134). -/
theorem txTake_offerNewHead {s : State} (he : s.TransmitterEager) (sl : SlotNum) :
    txTake (offerNewHead sl s) = s.withOffers ([sl].filter (fun k => s.newHeads.contains k)) := by
  rw [offerNewHead_eq]
  by_cases h : sl ∈ s.newHeads
  · obtain ⟨hup, -, hnotice⟩ := State.mem_newHeads.1 h
    rw [if_pos h, List.filter_cons_of_pos (by simpa using h)]
    exact txTake_withOffered he (fun _ => hup) fun k hk => headFrame_of_headNotice (List.mem_singleton.1 hk ▸ hnotice)
  · rw [if_neg h, List.filter_cons_of_neg (by simpa using h)]
    have := txTake_withOffered (due := []) he (fun h => absurd rfl h) (fun k hk => absurd hk List.not_mem_nil)
    rwa [withOffered_nil] at this

end Sys2Proof.Machine
end


section
/-! PROOFS. REVOKE and SWEEP (R149, R150), the end of the training (R128), and the transmitter (R133, R134). -/

namespace Sys2Proof.Machine

/-! ### What offers leave unchanged -/

/-- Offers act on the slots, the offer list and the transmitter only. -/
theorem withOffers_only (s : State) (due : List SlotNum) :
    ∃ slots offers tx, s.withOffers due = { s with slots := slots, offers := offers, tx := tx } := by
  unfold State.withOffers
  split
  · exact ⟨_, _, _, rfl⟩
  · exact ⟨_, _, s.tx, rfl⟩

theorem withOffers_grant (s : State) (due : List SlotNum) (g : GrantNum) : (s.withOffers due).grant g = s.grant g := by
  obtain ⟨_, _, _, h⟩ := withOffers_only s due
  rw [h]
  rfl

theorem withOffers_cq (s : State) (due : List SlotNum) : (s.withOffers due).cq = s.cq := by
  obtain ⟨_, _, _, h⟩ := withOffers_only s due
  rw [h]

/-! ### REVOKE and SWEEP -/

/-- A holder's slot is the same while no slot's record changes. -/
theorem slotOf_congr {s t : State} (h : ∀ n, t.findSlot n = s.findSlot n) (holder : Holder) :
    t.slotOf holder = s.slotOf holder := by
  cases holder with
  | shared => rfl
  | station n => exact h n

theorem withClosed_eager {s : State} (h : s.TransmitterEager) (cause : Cause) (gs : List GrantNum) :
    (s.withClosed cause gs).TransmitterEager := by
  simpa only [State.TransmitterEager, State.withClosed] using h

/-- The offer of a holder's new head, as described (R111, R134). -/
theorem offerForHolder_eq {s : State} (he : s.TransmitterEager) (h : Holder) :
    offerForHolder h s = s.withOffers ((s.slotOf h).toList.filter (fun k => s.newHeads.contains k)) := by
  cases h with
  | shared => exact (withOffers_nil s).symm
  | station n =>
    cases hn : s.findSlot n with
    | none =>
      simp only [offerForHolder, State.slotOf, hn]
      exact (withOffers_nil s).symm
    | some sl =>
      simp only [offerForHolder, State.slotOf, hn]
      exact txTake_offerNewHead he sl

/-- The closing of grants of one holder with the offer of its new head (R149, R150). -/
theorem offerForHolder_withClosed {s : State} (he : s.TransmitterEager) (cause : Cause) (gs : List GrantNum)
    (h : Holder) :
    offerForHolder h (s.withClosed cause gs) =
      (s.withClosed cause gs).withOffers
        ((s.slotOf h).toList.filter (fun k => (s.withClosed cause gs).newHeads.contains k)) := by
  rw [offerForHolder_eq (withClosed_eager he cause gs), slotOf_congr (withClosed_findSlot s cause gs)]

/-- Which of a list's grants are ready is a matter of the grant table. -/
theorem readyAmong_congr {s t : State} (h : ∀ g, t.grant g = s.grant g) (gs : List GrantNum) :
    t.readyAmong gs = s.readyAmong gs := by
  simp only [State.readyAmong, h]

/-- How many grants a command's record counts as posted at once (R149, R150). -/
theorem postedNow_eq (s : State) (gs : List GrantNum) :
    postedNow s gs = min (s.readyAmong gs).length (63 - s.cq.length) := by
  rw [postedNow, State.readyAmong_eq, List.countP_eq_length_filter]
  rfl

/-- One grant is posted at once exactly if it is ready and a slot is left (R149). -/
theorem postedNow_singleton (s : State) (g : GrantNum) :
    (postedNow s [g] == 1) = (s.readyAmong [g] == [g] && decide (s.cq.length < 63)) := by
  rw [Bool.eq_iff_iff, postedNow_eq, State.readyAmong_eq, List.filter_singleton]
  cases (s.grant g).isReady with
  | false => simp
  | true =>
    simp only [cond_true, List.length_singleton, beq_iff_eq, BEq.rfl, Bool.true_and, decide_eq_true_eq]
    omega

/-- A command whose execution closes grants and offers a head reports, and then hands over what is ready. -/
theorem command_hands {tag : BitVec 16} {c : Command} {s v : State} {gs : List GrantNum} {w1 w2 w3 : Word}
    {rs : List GrantNum} (h : s.CanTake) (hc : ProperCommand c) (hgs : gs.Nodup) (hrs : v.readyAmong gs = rs)
    (he : execute c s = { state := v, status := .ok, w1 := w1, w2 := w2, w3 := w3, ready := gs }) :
    command tag c s = .next ((v.report (commandCode c) tag .ok w1 w2 w3).withReady rs) := by
  rw [command_taken h hc, he, ← hrs]
  exact congrArg _ (testReadyAll_eq hgs _)

theorem withClosed_cq (s : State) (cause : Cause) (gs : List GrantNum) : (s.withClosed cause gs).cq = s.cq := by
  simp only [State.withClosed]

/-- REVOKE of a LIVE grant: the closing act and the offer, the record, and the hand-over (R149). -/
theorem exec_revoke_closes {tag grant : BitVec 16} {s u v : State} {g : GrantNum} {t : Terms} (htake : s.CanTake)
    (he : s.TransmitterEager) (hg : grant.toNat = g.val) (hb : (s.grant g).body = .live t)
    (hu : u = s.withClosed .revoked [g])
    (hv : v = u.withOffers ((s.holderSlot g).toList.filter (fun sl => u.newHeads.contains sl))) :
    command tag (.revoke grant (s.grant g).gen) s = .next
      ((v.report 3 tag .ok (refWord g (s.grant g).gen)
          (flag 0 ((s.grant g).owes .revoked) ||| flag 1 (u.readyAmong [g] == [g] && decide (s.cq.length < 63)) |||
            number 8 4 (s.grant g).inFlight) 0).withReady (u.readyAmong [g])) := by
  have hready : v.readyAmong [g] = u.readyAmong [g] := readyAmong_congr (by rw [hv]; exact withOffers_grant u _) [g]
  have hholder : s.holderSlot g = s.slotOf t.holder := State.holderSlot_of_terms (by rw [hb]; rfl)
  have hstate : offerForHolder t.holder (closeGrant .revoked g s) = v := by
    rw [closeGrant_eq, offerForHolder_withClosed he, ← hholder, hv, hu]
  have hcq : v.cq = s.cq := by rw [hv, withOffers_cq, hu, withClosed_cq]
  refine command_hands (c := .revoke grant (s.grant g).gen) htake trivial (List.nodup_singleton g) hready ?_
  refine (onLive_live hg rfl hb _).trans ?_
  simp only [hstate, postedNow_singleton, hready, hcq, Grant.owes_live hb]

/-- Settles O22: the closing act, the offer of the holder's new head, and the hand-over behind the record. -/
theorem revokeCloses : Obligations.RevokeCloses := by
  intro tag grant gen s g t htake he hg hgen hb
  subst hgen
  exact exec_revoke_closes htake he hg hb rfl rfl

theorem owesNotice_eq (cause : Cause) (x : Grant) : owesNotice cause x = x.owes cause := by
  unfold owesNotice
  cases hb : x.body with
  | free | closing => rw [Grant.owes, hb]
  | live t => exact (Grant.owes_live hb cause).symm

theorem slotOf_holderOf (s : State) (shared : Bool) (station : StationNum) :
    s.slotOf (holderOf shared station) = if shared then none else s.findSlot station := by
  cases shared <;> rfl

/-- Settles O23: the closing acts on all of the holder's grants, the offer of its new head, and the hand-over. -/
theorem sweepCloses : Obligations.SweepCloses := by
  intro tag station shared s htake he
  refine ⟨fun hshared hstation => ?_, fun hvalid => ?_⟩
  · have hinvalid : validHolder shared station = false := by
      rw [hshared, validHolder, Bool.false_or, Bool.eq_false_iff, Ne, stationInRange_iff]
      rintro ⟨h0, h63⟩
      exact hstation.elim h0 h63
    refine command_refused (c := .sweep station shared) htake trivial ?_
    simp only [execute, executeSweep, hinvalid, Bool.false_eq_true, if_false]
    rfl
  · intro gs u v
    have hholder : validHolder shared station = true := by
      rw [validHolder, Bool.or_eq_true, stationInRange_iff]
      exact hvalid
    have hlive : s.liveOf (holderOf shared station) = gs := rfl
    have hgs : gs.Nodup := (List.nodup_finRange 512).filter _
    have hready : ∀ gs, v.readyAmong gs = u.readyAmong gs := readyAmong_congr (withOffers_grant u _)
    have hstate : offerForHolder (holderOf shared station) (closeAll .swept gs s) = v := by
      rw [closeAll_eq .swept hgs, offerForHolder_withClosed he, slotOf_holderOf]
    have hcq : v.cq = s.cq := (withOffers_cq u _).trans (withClosed_cq s .swept gs)
    have hexec : execute (.sweep station shared) s =
        { state := v
          status := .ok
          w1 := BitVec.ofNat 32 gs.length
          w2 := BitVec.ofNat 32 (gs.countP (fun g => (s.grant g).owes .swept))
          w3 := BitVec.ofNat 32 (min (u.readyAmong gs).length (63 - s.cq.length))
          ready := gs } := by
      refine (if_pos hholder).trans ?_
      simp only [number_word, owesNotice_eq, hlive]
      rw [← hready, ← hcq, ← postedNow_eq, ← hstate]
    exact command_hands (c := .sweep station shared) htake trivial hgs (hready gs) hexec

/-! ### The end of the training -/

/-- The heads offered when the link enters UP, as a test (R128). -/
def State.headDue (s : State) (sl : SlotNum) : Bool :=
  match s.headNotice sl with
  | some .queued => true
  | some (.awaitAck tries _) => decide (tries < s.noticeTries)
  | _ => false

theorem headFrame_of_headDue {s : State} {sl : SlotNum} (h : s.headDue sl = true) : ∃ f, s.headFrame sl = some f := by
  unfold State.headDue at h
  cases hn : s.headNotice sl with
  | none => rw [hn] at h; cases h
  | some n => exact headFrame_of_headNotice hn

theorem withOffered_headDue (s : State) (due : List SlotNum) (sl : SlotNum) :
    (s.withOffered due).headDue sl = s.headDue sl := by
  have htries : (s.withOffered due).noticeTries = s.noticeTries := by simp only [State.withOffered]
  simp only [State.headDue, withOffered_headNotice, htries]

/-- While no frame is under way, the offer of a head when the link enters UP is decided by its notice state (R128). -/
theorem reofferHead_eq {sl : SlotNum} {s : State} (h : (s.slot sl).frame = .none) :
    reofferHead sl s = if s.headDue sl = true then s.withOffered [sl] else s := by
  have hoffer : s.headDue sl = true → offerFrame sl s = s.withOffered [sl] := fun hdue =>
    let ⟨_, hf⟩ := headFrame_of_headDue hdue
    offerFrame_eq hf
  cases hn : s.headNotice sl with
  | none => simp [reofferHead, State.headDue, hn]
  | some n =>
    cases n with
    | queued =>
      have hdue : s.headDue sl = true := by simp [State.headDue, hn]
      rw [if_pos hdue, ← hoffer hdue]
      simp [reofferHead, hn, h]
    | awaitAck tries ticks =>
      have hdue : s.headDue sl = decide (tries < s.noticeTries) := by simp [State.headDue, hn]
      by_cases htries : tries < s.noticeTries
      · rw [if_pos (by simpa [hdue] using htries), ← hoffer (by simpa [hdue] using htries)]
        simp [reofferHead, hn, h, htries]
      · rw [if_neg (by simpa [hdue] using htries)]
        simp [reofferHead, hn, htries]
    | notDue | acked | unacked | abandoned => simp [reofferHead, State.headDue, hn]

/-- All due heads offered when the link enters UP, as described (R128). -/
theorem forSlots_reofferHead {s : State} (h : ∀ sl, (s.slot sl).frame = .none) :
    forSlots reofferHead s = s.withOffered ((List.finRange 16).filter s.headDue) := by
  refine forSlots_offers fun done sl hsl => ?_
  rw [reofferHead_eq (by rw [withOffered_slot, if_neg hsl]; exact h sl), withOffered_headDue]

/-- Settles O9: the due heads are offered slot by slot and the transmitter takes the first. -/
theorem trainingCompletesWithDueOffers : Obligations.TrainingCompletesWithDueOffers := by
  intro s hreset
  refine ⟨fun hlink hquiet => ?_, fun hlink => ?_, fun hlink => ?_, fun hlink => ?_⟩
  · obtain ⟨hreply, -, hoffers, -, -, hframes, -⟩ := hquiet (by rw [hlink]; decide)
    have hcomplete : trainingComplete s = linkEntersUp s := by rw [trainingComplete, if_pos hlink]
    refine (event_running (f := trainingComplete) hreset).trans (congrArg _ (hcomplete.trans ?_))
    rw [linkEntersUp, forSlots_reofferHead (by exact hframes)]
    refine txTake_withOffered (fun _ _ => ⟨hreply, hoffers⟩) (fun _ => rfl) fun sl hsl => ?_
    exact headFrame_of_headDue (List.mem_filter.1 hsl).2
  · refine (event_running (f := trainingComplete) hreset).trans ?_
    rw [trainingComplete, if_neg hlink]
  · refine (event_running (f := syncLost) hreset).trans ?_
    simp only [syncLost, hlink]
  · refine (event_running (f := syncLost) hreset).trans ?_
    simp only [syncLost, hlink]

/-! ### The transmitter -/

/-- The frame of a head in CLOSING with its notice QUEUED, with the fields its grant gives it (R112). -/
theorem headFrame_queued {s : State} {sl : SlotNum} {g : GrantNum} {rest : List GrantNum} {t : Terms} {c : Closing}
    (hq : (s.slot sl).queue = g :: rest) (hb : (s.grant g).body = .closing t c) (hc : c.notice = .queued) :
    s.headFrame sl = some
      { dest := t.holder.stationBits, src := s.self, grant := g, gen := (s.grant g).gen, cause := c.cause,
        tryNo := 1 } := by
  simp only [State.headFrame, hq, hb, hc]

/-- A slot taken out of a table made by cases on one slot. -/
theorem slots_ofFn_update (s : State) (sl : SlotNum) (x : Slot) {f : SlotNum → Slot} (hself : f sl = x)
    (hother : ∀ k, k ≠ sl → f k = s.slot k) : Vector.ofFn f = s.slots.set sl.val x sl.isLt := by
  rw [vector_set_eq_ofFn]
  congr 1
  funext k
  by_cases hk : k = sl
  · rw [hk, hself]
    simp
  · rw [hother k hk]
    simp [hk, State.slot]

/-- Settles O45: a new head's frame is offered, and a free transmitter takes it at once. -/
theorem noticeOfferBuildsFrame : Obligations.NoticeOfferBuildsFrame := by
  intro s sl hreset he
  have hexec : exec (.noticeOffer sl) s = .next (s.withOffers ([sl].filter (fun k => s.newHeads.contains k))) := by
    rw [← txTake_offerNewHead he]
    exact event_running (f := fun s => txTake (offerNewHead sl s)) hreset
  refine ⟨fun hnot => ?_, fun g rest t c hq hb hc hlink hframe => ?_⟩
  · rw [hexec, List.filter_cons_of_neg (by simpa using hnot), List.filter_nil, withOffers_nil]
  · intro f
    have hhead : s.headFrame sl = some f := headFrame_queued hq hb hc
    have hnotice : s.headNotice sl = some .queued := (State.headNotice_closing hq hb).trans (congrArg some hc)
    have hnew : sl ∈ s.newHeads := State.mem_newHeads.2 ⟨hlink, hframe, hnotice⟩
    rw [List.filter_cons_of_pos (by simpa using hnew), List.filter_nil] at hexec
    refine ⟨fun htx => hexec.trans (congrArg _ ?_), fun htx => hexec.trans (congrArg _ ?_)⟩
    · rw [withOffers_free htx hhead, slots_ofFn_update s sl { s.slot sl with frame := .sending } (if_pos rfl)
        (fun k hk => by simp [hk]), List.append_nil]
    · rw [withOffers_busy htx, State.withOffered, slots_ofFn_update s sl { s.slot sl with frame := .offered f }
        (by simp [hhead]) (fun k hk => by simp [hk])]

/-- Settles O46: the transmitter's choice, and its choice again when a transmission completes. -/
theorem transmitterChoosesAndCompletes : Obligations.TransmitterChoosesAndCompletes := by
  intro s hreset
  have hexec : ∀ t : State, t.inReset = false → exec .transmitStart t = .next (txTake t) := fun t ht =>
    (exec_transmitStart t).trans (event_running ht)
  refine ⟨fun h => ?_, fun hlink htx hreply => ?_, fun sl rest f hlink htx hreply hoffers hframe => ?_,
    fun f rest htx hreply => ?_, fun f htx => ?_⟩
  · rw [hexec s hreset]
    obtain hlink | hbusy | ⟨hreply, hoffers⟩ := h
    · rw [txTake_link_not_up hlink]
    · rw [txTake_busy hbusy]
    · rw [txTake_idle hreply hoffers]
  · obtain ⟨q, rest, hq⟩ := List.exists_cons_of_ne_nil hreply
    rw [hexec s hreset, txTake_reply hlink htx hq]
  · rw [hexec s hreset, txTake_notice hlink htx hreply hoffers hframe]
    rfl
  · refine ⟨_, ?_, hexec _ hreset⟩
    refine (event_running (f := immediateSent) hreset).trans ?_
    simp only [immediateSent, htx, hreply]
  · refine ⟨_, ?_, hexec _ hreset⟩
    refine (event_running (f := detachedSent) hreset).trans ?_
    simp only [detachedSent, htx]

end Sys2Proof.Machine
end


section
/-! PROOFS. Arrivals (R131, R132): the receive filter, the replies built at an arrival, and the answers of the check
order up to the sequence rule (R69 to R72). -/

namespace Sys2Proof.Machine

/-! ### Replies built at an arrival (R84, R85) -/

/-- On an UP link an immediate reply is offered as described (R84, R85, R134). -/
theorem immediate_withReply {s : State} (hl : s.link = .up) (r : Reply) : immediate r s = s.withReply r := by
  unfold State.withReply
  by_cases h : s.immCount < 4
  · rw [if_pos h, immediate_up h hl]
  · rw [if_neg h, immediate_lost (Nat.not_lt.1 h)]

theorem answer_withReply {s : State} (hl : s.link = .up) (r : Request) (status : ReplyStatus) (value : Word)
    (replayed : Bool) : answer r status value replayed s = s.withReply (r.reply s status value replayed) :=
  immediate_withReply hl _

theorem answerHello_withReply {s : State} (hl : s.link = .up) (src : StationNum) (seq : Byte) (status : ReplyStatus)
    (value : Word) : answerHello src seq status value s = s.withReply (bareReply s src 1 seq status value) :=
  immediate_withReply hl _

/-- A definitive outcome is recorded as described (R58, R77). -/
theorem recordOutcome_withOutcome (sl : SlotNum) (r : Request) (status : ReplyStatus) (value : Word) (s : State) :
    recordOutcome sl r status value s = s.withOutcome sl r status value :=
  State.modifyRecord_eq_ofFn s sl _

theorem definitive_withOutcome {s : State} (hl : s.link = .up) (sl : SlotNum) (r : Request) (status : ReplyStatus)
    (value : Word) (replayed : Bool) :
    definitive sl r status value replayed s =
      (s.withOutcome sl r status value).withReply (r.reply s status value replayed) := by
  have hlink : (s.withOutcome sl r status value).link = .up := by simpa only [State.withOutcome] using hl
  have hself : (s.withOutcome sl r status value).self = s.self := by simp only [State.withOutcome]
  rw [definitive, recordOutcome_withOutcome, answer_withReply hlink]
  simp only [Request.reply, hself]

/-! ### Arrivals by rows -/

/-- A request's row is the arrival of that request (R131). -/
theorem exec_requestRow {c : Instr} {r : Request} {s : State} (hrow : requestOfRow c = some r)
    (h : s.CanReceive r.src) : exec c s = .next (takeRequest r s.received) := by
  have hexec : exec c s = event (arrive (.request r)) s := by
    cases c <;> cases hrow <;> rfl
  rw [hexec]
  exact arrive_received (a := .request r) h

theorem exec_helloRow {src : StationNum} {s : State} (h : s.CanReceive src) (seq : Byte) (epoch : BitVec 16)
    (start : Byte) : exec (.hello src seq epoch start) s = .next (takeHello src seq epoch start s.received) :=
  arrive_received (a := .hello src seq epoch start) h

theorem exec_noticeAckRow {src : StationNum} {s : State} (h : s.CanReceive src) (seq : Byte) (grant : BitVec 16)
    (gen : Byte) : exec (.noticeAck src seq grant gen) s = .next (takeNoticeAck src seq grant gen s.received) :=
  arrive_received (a := .noticeAck src seq grant gen) h

/-! ### The receive filter -/

/-- A frame that fails a test of the filter is none of the arrivals (R132). -/
theorem receive_none {self : StationNum} {bs : List Byte} (h : filterAccepts self bs = false) :
    receive self bs = none := by
  simp [receive, h]

/-- Settles O32: each test that fails makes the receive filter's conjunction fail. -/
theorem filterDiscardsFrames : Obligations.FilterDiscardsFrames := by
  intro bytes s hreset
  have hexec : exec (.filteredFrame bytes) s = .next (receiveFrame bytes s) :=
    event_running (f := receiveFrame bytes) hreset
  refine ⟨fun hlink => ?_, fun hlink htests => ?_⟩
  · rw [hexec, receiveFrame, if_neg hlink]
  · have hfilter : filterAccepts s.self bytes = false := by
      rw [Bool.eq_false_iff]
      intro haccepts
      simp only [filterAccepts, Bool.and_eq_true, decide_eq_true_eq, beq_iff_eq, sourceAccepted, bne_iff_ne,
        stationInRange_iff, Config.maxCount] at haccepts
      obtain ⟨⟨⟨⟨⟨⟨⟨hlong, hlines⟩, hmost⟩, hcount⟩, hcrc⟩, hdest⟩, hdest0, hdest63⟩, ⟨hsrc0, hsrc63⟩, hself⟩ :=
        haccepts
      have hsixteen : (bytes.length - 20) / 64 ≤ 16 := of_decide_eq_true hmost
      have hshort : bytes.length ≤ 1044 := by omega
      rcases htests with h | h | h | h | h | h | h | h | h | h | h
      · omega
      · exact h hlines
      · omega
      · exact h hcount
      · exact h hcrc.symm
      · exact h hdest
      · exact hdest0 h
      · exact hdest63 h
      · exact hself h
      · exact hsrc0 h
      · exact hsrc63 h
    rw [hexec, receiveFrame, if_pos hlink, receive_none hfilter]
    rfl

/-! ### Steps 1 to 7 -/

/-- A kind code that is none of the seven is answered BAD_KIND (R69). -/
theorem requestKindCode_eq_false {kind : Byte} (h : kind.toNat = 0 ∨ 7 < kind.toNat) :
    requestKindCode kind = false := by
  simp only [requestKindCode, Bool.and_eq_false_iff, decide_eq_false_iff_not]
  omega

/-- A NOTICE_ACK from an unknown station is answered (R70). -/
theorem takeNoticeAck_unknown {src : StationNum} {s : State} (h : s.findSlot src = none) (seq : Byte)
    (grant : BitVec 16) (gen : Byte) :
    takeNoticeAck src seq grant gen s =
      immediate (plainReply s src noticeAckCode seq grant gen .unknownStation 0 false) s := by
  simp only [takeNoticeAck, h]

/-- A HELLO from an unknown station that is not to be admitted (R50). -/
theorem takeHello_unknown {src : StationNum} {s : State} (h : s.findSlot src = none)
    (hp : ¬ (s.policy = .opened ∧ s.hold = .running)) (seq : Byte) (epoch : BitVec 16) (start : Byte) :
    takeHello src seq epoch start s = answerHello src seq .unknownStation 0 s := by
  simp only [takeHello, h, if_neg hp]

/-- A HELLO from an unknown station for which no slot is VACANT (R50). -/
theorem takeHello_full {src : StationNum} {s : State} (h : s.findSlot src = none)
    (hp : s.policy = .opened ∧ s.hold = .running) (hv : s.vacantSlot = none) (seq : Byte) (epoch : BitVec 16)
    (start : Byte) : takeHello src seq epoch start s = answerHello src seq .stationFull 0 s := by
  simp only [takeHello, h, if_pos hp, hv]

/-- Steps 4 to 6 of a known station's HELLO (R71). -/
theorem takeHello_known {src : StationNum} {s : State} {sl : SlotNum} {x : Station} (h : s.findSlot src = some sl)
    (hr : (s.slot sl).record = some x) (seq : Byte) (epoch : BitVec 16) (start : Byte) :
    takeHello src seq epoch start s =
      if x.barred = true then answerHello src seq .barred 0 s
      else if s.hold ≠ .running then answerHello src seq .held 0 s
      else handleHello sl x src seq epoch start s := by
  simp only [takeHello, h, hr]

theorem takeRequest_unknown {r : Request} {s : State} (h : s.findSlot r.src = none) :
    takeRequest r s = answer r .unknownStation 0 false s := by
  simp only [takeRequest, h]

/-- Steps 4, 5, 7 and 8 of a known station's request (R71, R72). -/
theorem takeRequest_known {r : Request} {s : State} {sl : SlotNum} {x : Station} (h : s.findSlot r.src = some sl)
    (hr : (s.slot sl).record = some x) :
    takeRequest r s =
      if x.barred = true then answer r .barred 0 false s
      else if s.hold ≠ .running then answer r .held 0 false s
      else x.session.elim (answer r .notSynced 0 false s) (fun e => sequenceRequest sl x e.last r s) := by
  simp only [takeRequest, h, hr]
  cases x.session <;> rfl

/-- Settles O34: the steps before the sequence rule, each with the row's own answer. -/
theorem refusedBeforeSequence : Obligations.RefusedBeforeSequence := by
  intro src s hreceive
  have hlink : s.received.link = .up := hreceive.2.1
  have hhello : ∀ seq status, answerHello src seq status 0 s.received =
      s.received.withReply (bareReply s src 1 seq status 0) := fun seq status =>
    answerHello_withReply (s := s.received) hlink src seq status 0
  refine ⟨fun seq kind hkind => ?_, fun hslot seq grant gen => ?_,
    fun hslot seq epoch start => ⟨fun hclosed => ?_, fun hopen hhold hfull => ?_⟩,
    fun sl x hslot hrecord seq epoch start => ⟨fun hbarred => ?_, fun hbarred hhold => ?_⟩, fun c r hrow hsrc => ?_⟩
  · refine (arrive_received (a := .unknown src seq kind) hreceive).trans (congrArg _ ?_)
    refine (if_neg (by simp [requestKindCode_eq_false hkind])).trans ?_
    exact immediate_withReply hlink _
  · rw [exec_noticeAckRow hreceive]
    refine congrArg _ ((takeNoticeAck_unknown (s := s.received) hslot seq grant gen).trans ?_)
    exact immediate_withReply hlink _
  · rw [exec_helloRow hreceive, ← hhello]
    refine congrArg _ ?_
    have hnot : ¬ (s.policy = .opened ∧ s.hold = .running) := by
      rintro ⟨hopen, hrunning⟩
      exact hclosed.elim (fun h => by rw [h] at hopen; cases hopen) (fun h => h hrunning)
    exact takeHello_unknown (s := s.received) hslot hnot seq epoch start
  · rw [exec_helloRow hreceive, ← hhello]
    exact congrArg _ (takeHello_full (s := s.received) hslot ⟨hopen, hhold⟩
      (State.vacantSlot_none (s := s.received) hfull) seq epoch start)
  · rw [exec_helloRow hreceive, ← hhello, takeHello_known (s := s.received) hslot hrecord,
      if_pos hbarred]
  · rw [exec_helloRow hreceive, ← hhello, takeHello_known (s := s.received) hslot hrecord,
      if_neg (by simp [hbarred]), if_pos (by exact hhold)]
  · subst hsrc
    rw [exec_requestRow hrow hreceive]
    have hreply : ∀ status, answer r status 0 false s.received = s.received.withReply (r.reply s status 0 false) :=
      fun status => answer_withReply hlink r status 0 false
    simp only [← hreply]
    refine ⟨fun hslot => ?_, fun sl x hslot hrecord => ⟨fun hbarred => ?_, fun hbarred hhold =>
      ?_, fun hbarred hhold hsession => ?_⟩⟩
    · exact congrArg _ (takeRequest_unknown (s := s.received) hslot)
    · rw [takeRequest_known (s := s.received) hslot hrecord, if_pos hbarred]
    · rw [takeRequest_known (s := s.received) hslot hrecord, if_neg (by simp [hbarred]), if_pos (by exact hhold)]
    · rw [takeRequest_known (s := s.received) hslot hrecord, if_neg (by simp [hbarred]), if_neg
        (not_not_intro (by exact hhold)),
        hsession, Option.elim_none]

/-! ### The sequence rule -/

/-- Settles O35: the verdicts of the sequence rule other than to go on. -/
theorem sequenceRuleAnswers : Obligations.SequenceRuleAnswers := by
  intro c r s sl x e hrow ⟨hreceive, hslot, hrecord, hbarred, hsession, hhold⟩
  have hexec : exec c s = .next (sequenceRequest sl x e.last r s.received) := by
    rw [exec_requestRow hrow hreceive]
    exact congrArg _ (takeRequest_sequence hslot hrecord hbarred hhold hsession)
  have hanswer : ∀ status value replayed, answer r status value replayed s.received =
      s.received.withReply (r.reply s status value replayed) := fun _ _ _ =>
    answer_withReply (s := s.received) hreceive.2.1 r _ _ _
  have hnext : e.last + 1 ≠ e.last := by bv_omega
  refine ⟨fun hlast hpending => ?_, fun hlast hpending hcache => ?_, fun k hlast hpending hcache hkind hrepeat => ?_,
    fun hlast hpending => ?_, fun hlast hnot => ?_⟩
  · have hverdict : sequenceRule x e.last r.kind r.seq = .discard := by
      rw [sequenceRule, if_pos hlast, if_pos (Option.isSome_iff_ne_none.2 hpending)]
    simp only [hexec, sequenceRequest, hverdict]
  · have hverdict : sequenceRule x e.last r.kind r.seq = .outOfOrder := by
      rw [sequenceRule, if_pos hlast, if_neg (by simp [hpending])]
      cases hc : x.cache with
      | none => rfl
      | some k => exact if_neg (hcache k hc)
    simp only [hexec, sequenceRequest, hverdict, hanswer]
  · have hreexecutes : r.kind.reExecutes = false := by
      rcases hrepeat with h | h | h <;> rw [h] <;> rfl
    have hverdict : sequenceRule x e.last r.kind r.seq = .replay k := by
      rw [sequenceRule, if_pos hlast, if_neg (by simp [hpending])]
      simp only [hcache, hkind, if_true, hreexecutes, Bool.false_eq_true, if_false]
    simp only [hexec, sequenceRequest, hverdict, hanswer]
  · have hverdict : sequenceRule x e.last r.kind r.seq = .busy := by
      rw [sequenceRule, if_neg (by rw [hlast]; exact hnext), if_pos hlast,
        if_pos (Option.isSome_iff_ne_none.2 hpending)]
    simp only [hexec, sequenceRequest, hverdict, hanswer]
  · have hverdict : sequenceRule x e.last r.kind r.seq = .outOfOrder := by
      rw [sequenceRule, if_neg hlast, if_neg hnot]
    simp only [hexec, sequenceRequest, hverdict, hanswer]

end Sys2Proof.Machine
end


section
/-! PROOFS. Steps 9 to 14 of the check order (R73 to R82): refusals, binding, RENEW, PROBE and RETURN. -/

namespace Sys2Proof.Machine

/-! ### Steps 9 to 13 -/

/-- Step 13: the first check of the kind's own that fails (R74, R75). -/
def kindRefusal (r : Request) (t : Terms) : Option ReplyStatus :=
  match r.kind with
  | .read | .write => transferRefusal r t
  | .renew => if t.remaining = none then some .notTimed else if t.credits = 0 then some .noCredit else none
  | .returnGrant | .probe => none

/-- The answer of the first of steps 9 to 13 that fails, from what the reference resolves to (R73 to R75). -/
def Resolution.refusal (x : Resolution) (r : Request) : Option ReplyStatus :=
  match x with
  | .badRef => some .badRef
  | .stale _ => some .stale
  | .closed _ => some .closed
  | .live _ t => if holderPasses r.kind t.holder r.src = true then kindRefusal r t else some .notHolder

/-- The holder test as the statements put it (R73). -/
theorem holderPasses_iff (k : ReqKind) (h : Holder) (src : StationNum) :
    holderPasses k h src = true ↔ h = .station src ∨ (h = .shared ∧ k ≠ .returnGrant) := by
  cases h <;> simp [holderPasses]

theorem rights_hasRead_eq_false (x : Rights) : x.hasRead = false ↔ x = .write := by cases x <;> decide

theorem rights_hasWrite_eq_false (x : Rights) : x.hasWrite = false ↔ x = .read := by cases x <;> decide

/-- The checks on a LIVE grant, from the holder test on (R73 to R75). -/
theorem firstFailure_liveChecks (r : Request) (t : Terms) :
    firstFailure
      [(decide (t.holder ≠ .station r.src ∧ ¬ (t.holder = .shared ∧ r.kind ≠ .returnGrant)), ReplyStatus.notHolder),
        (decide ((r.kind = .read ∧ t.rights = .write) ∨ (r.kind = .write ∧ t.rights = .read)), .noRight),
        (decide ((r.kind = .read ∨ r.kind = .write) ∧ (r.count.toNat = 0 ∨ 16 < r.count.toNat)), .badLength),
        (decide (r.kind = .write ∧ r.payload.length ≠ r.count.toNat), .badLength),
        (decide ((r.kind = .read ∨ r.kind = .write) ∧ t.length < r.offset.toNat + r.count.toNat), .outOfWindow),
        (decide (r.kind = .renew ∧ t.remaining = none), .notTimed),
        (decide (r.kind = .renew ∧ t.credits = 0), .noCredit)] =
      if holderPasses r.kind t.holder r.src = true then kindRefusal r t else some .notHolder := by
  by_cases hholder : holderPasses r.kind t.holder r.src = true
  · have hnot : ¬ (t.holder ≠ .station r.src ∧ ¬ (t.holder = .shared ∧ r.kind ≠ .returnGrant)) := fun ⟨h1, h2⟩ =>
      ((holderPasses_iff ..).1 hholder).elim h1 h2
    rw [firstFailure_cons, if_neg fun h => hnot (of_decide_eq_true h), if_pos hholder]
    cases hk : r.kind <;>
      simp [firstFailure_cons, firstFailure_nil, kindRefusal, transferRefusal, hk, rights_hasRead_eq_false,
        rights_hasWrite_eq_false, Config.maxCount]
  · have hfails : t.holder ≠ .station r.src ∧ ¬ (t.holder = .shared ∧ r.kind ≠ .returnGrant) := by
      rw [holderPasses_iff, not_or] at hholder
      exact hholder
    rw [firstFailure_cons, if_pos (decide_eq_true hfails), if_neg hholder]

/-- Steps 9 to 13, from what the reference resolves to (R68, R73 to R75). -/
theorem firstFailure_requestChecks (s : State) (r : Request) :
    firstFailure (s.requestChecks r) = (s.resolve r.grant r.gen).refusal r := by
  unfold State.requestChecks State.resolve
  by_cases hlt : r.grant.toNat < 512
  · simp only [hlt, dite_true]
    by_cases hgen : (s.grant ⟨r.grant.toNat, hlt⟩).gen = r.gen
    · cases hb : (s.grant ⟨r.grant.toNat, hlt⟩).body with
      | free => simp [firstFailure_cons, hgen, Resolution.refusal]
      | closing t c => simp [firstFailure_cons, hgen, Resolution.refusal]
      | live t =>
        rw [firstFailure_cons, if_neg (by simp [hgen])]
        simp only [hgen, if_true]
        exact firstFailure_liveChecks r t
    · simp [firstFailure_cons, hgen, Resolution.refusal]
  · simp only [hlt, dite_false]
    rfl

/-- A failing check of the kind's own is answered and recorded (R74, R75, R77). -/
theorem kindAction_refused {r : Request} {t : Terms} {status : ReplyStatus} (h : kindRefusal r t = some status)
    (sl : SlotNum) (replayed : Bool) (g : GrantNum) (s : State) :
    kindAction sl r replayed g t s = definitive sl r status 0 replayed s := by
  unfold kindRefusal at h
  unfold kindAction
  cases hk : r.kind with
  | read | write =>
    rw [hk] at h
    simp only [] at h ⊢
    simp only [transferAction, h]
  | returnGrant | probe => rw [hk] at h; cases h
  | renew =>
    rw [hk] at h
    simp only [] at h ⊢
    unfold renewAction
    cases hrem : t.remaining with
    | none =>
      rw [if_pos hrem] at h
      cases h
      rfl
    | some n =>
      rw [if_neg (by rw [hrem]; exact Option.some_ne_none n)] at h
      by_cases hc : t.credits = 0
      · rw [if_pos hc] at h
        cases h
        exact if_pos hc
      · rw [if_neg hc] at h
        cases h

/-- A request that fails one of steps 9 to 13 is answered and recorded (R73 to R77). -/
theorem resolveRequest_refused {s : State} {r : Request} {status : ReplyStatus}
    (h : firstFailure (s.requestChecks r) = some status) (sl : SlotNum) (replayed : Bool) :
    resolveRequest sl r replayed s = definitive sl r status 0 replayed s := by
  rw [firstFailure_requestChecks] at h
  unfold resolveRequest
  cases hres : s.resolve r.grant r.gen with
  | badRef | stale | closed => rw [hres] at h; cases h; rfl
  | live g t =>
    rw [hres] at h
    simp only [Resolution.refusal] at h ⊢
    by_cases hholder : holderPasses r.kind t.holder r.src = true
    · rw [if_pos hholder] at h ⊢
      exact kindAction_refused h sl replayed g s
    · rw [if_neg hholder] at h ⊢
      cases h
      rfl

/-- A request that passes steps 9 to 13 names a LIVE grant and goes on to its action (R68). -/
theorem resolveRequest_passes {s : State} {r : Request} (h : firstFailure (s.requestChecks r) = none) (sl : SlotNum)
    (replayed : Bool) :
    ∃ g t, s.resolve r.grant r.gen = .live g t ∧ kindRefusal r t = none ∧
      resolveRequest sl r replayed s = kindAction sl r replayed g t s := by
  rw [firstFailure_requestChecks] at h
  unfold resolveRequest
  cases hres : s.resolve r.grant r.gen with
  | badRef | stale | closed => rw [hres] at h; cases h
  | live g t =>
    rw [hres] at h
    simp only [Resolution.refusal] at h
    by_cases hholder : holderPasses r.kind t.holder r.src = true
    · rw [if_pos hholder] at h
      exact ⟨g, t, rfl, h, if_pos hholder⟩
    · rw [if_neg hholder] at h
      cases h

/-- A request whose grant is known: what passes steps 9 to 13 goes on to its action on it (R68). -/
theorem resolveRequest_reaches {s : State} {r : Request} {g : GrantNum} {t : Terms}
    (h : firstFailure (s.requestChecks r) = none) (hlive : s.ReachesLive r g t) (sl : SlotNum) (replayed : Bool) :
    kindRefusal r t = none ∧ resolveRequest sl r replayed s = kindAction sl r replayed g t s := by
  obtain ⟨g', t', hres, hnone, haction⟩ := resolveRequest_passes h sl replayed
  obtain ⟨hg', -, hb'⟩ := State.resolve_live hres
  obtain ⟨hg, -, hb, -⟩ := hlive
  have hsame : g' = g := Fin.ext (hg'.symm.trans hg)
  subst hsame
  rw [hb] at hb'
  cases hb'
  exact ⟨hnone, haction⟩

/-! ### From the arrival to step 9 -/

/-- What passes the sequence rule goes on (R56). -/
theorem sequenceRule_passes {x : Station} {e : Session} {r : Request} {replayed : Bool}
    (h : PassesSequence x e r replayed) : sequenceRule x e.last r.kind r.seq = .go replayed := by
  obtain ⟨hpending, ⟨rfl, hnext⟩ | ⟨rfl, hlast, hkind, c, hcache, hsame⟩⟩ := h
  · have hne : e.last + 1 ≠ e.last := by bv_omega
    rw [sequenceRule, hnext, if_neg hne, if_pos rfl, if_neg (by simp [hpending])]
  · have hreexecutes : r.kind.reExecutes = true := by
      rcases hkind with h | h <;> rw [h] <;> rfl
    rw [sequenceRule, if_pos hlast, if_neg (by simp [hpending])]
    simp only [hcache, hsame, if_true, hreexecutes]

/-- A request that passes the sequence rule reaches step 9 (R68). -/
theorem exec_passingRow {c : Instr} {r : Request} {s : State} {sl : SlotNum} {x : Station} {e : Session}
    {replayed : Bool} (hrow : requestOfRow c = some r) (hserves : s.Serves r.src sl x e)
    (hpasses : PassesSequence x e r replayed) : exec c s = .next (resolveRequest sl r replayed s.received) := by
  obtain ⟨hreceive, hslot, hrecord, hbarred, hsession, hhold⟩ := hserves
  rw [exec_requestRow hrow hreceive, takeRequest_sequence (s := s.received) hslot hrecord hbarred hhold hsession,
    sequenceRequest, sequenceRule_passes hpasses]

/-- Settles O36: the first failing check is answered and recorded, and BUSY is answered and not recorded. -/
theorem requestRefusedByFirstFailingCheck : Obligations.RequestRefusedByFirstFailingCheck := by
  intro c r s sl x e replayed hrow hserves hpasses
  have hlink : s.received.link = .up := hserves.1.2.1
  rw [exec_passingRow hrow hserves hpasses]
  refine ⟨fun status hfails => ?_, fun hnone hkind hbusy => ?_⟩
  · rw [resolveRequest_refused (s := s.received) hfails, definitive_withOutcome hlink]
    rfl
  · obtain ⟨g, t, -, hrefusal, haction⟩ := resolveRequest_passes (s := s.received) hnone sl replayed
    have hidle : s.received.idleContext = none := List.find?_eq_none.2 fun k _ h =>
      hbusy k (beq_iff_eq.1 h)
    have htransfer : transferAction sl r replayed g t s.received = answer r .busy 0 replayed s.received := by
      have : transferRefusal r t = none := by
        unfold kindRefusal at hrefusal
        rcases hkind with h | h <;> · rw [h] at hrefusal; exact hrefusal
      simp only [transferAction, this, hidle]
    have hkindAction : kindAction sl r replayed g t s.received = transferAction sl r replayed g t s.received := by
      unfold kindAction
      rcases hkind with h | h <;> rw [h]
    rw [haction, hkindAction, htransfer, answer_withReply hlink]
    rfl

/-! ### RENEW, PROBE and RETURN (R80 to R82) -/

theorem withReady_self (s : State) (gs : List GrantNum) : (s.withReady gs).self = s.self := by
  simp only [State.withReady, State.withRetired, State.withWaiting]

theorem withReady_link (s : State) (gs : List GrantNum) : (s.withReady gs).link = s.link := by
  simp only [State.withReady, State.withRetired, State.withWaiting]

theorem withClosed_self (s : State) (cause : Cause) (gs : List GrantNum) : (s.withClosed cause gs).self = s.self := by
  simp only [State.withClosed]

theorem withClosed_link (s : State) (cause : Cause) (gs : List GrantNum) : (s.withClosed cause gs).link = s.link := by
  simp only [State.withClosed]

theorem withGrant_self (s : State) (g : GrantNum) (x : Grant) : (s.withGrant g x).self = s.self := by
  simp only [State.withGrant]

theorem withGrant_link (s : State) (g : GrantNum) (x : Grant) : (s.withGrant g x).link = s.link := by
  simp only [State.withGrant]

/-- A definitive outcome answered in a state with the part's own number and an UP link (R58, R77, R85). -/
theorem definitive_of_self {s u : State} (hl : u.link = .up) (hself : u.self = s.self) (sl : SlotNum) (r : Request)
    (status : ReplyStatus) (value : Word) (replayed : Bool) :
    definitive sl r status value replayed u =
      (u.withOutcome sl r status value).withReply (r.reply s status value replayed) := by
  rw [definitive_withOutcome hl]
  simp only [Request.reply, hself]

/-- Settles O38: the three actions that end in a definitive answer OK. -/
theorem renewProbeReturnAnswered : Obligations.RenewProbeReturnAnswered := by
  intro c r s sl x e replayed g t hrow hserves hpasses hnone hlive
  have hlink : s.received.link = .up := hserves.1.2.1
  obtain ⟨hrefusal, haction⟩ :=
    resolveRequest_reaches (s := s.received) (g := g) (t := t) hnone hlive sl replayed
  rw [exec_passingRow hrow hserves hpasses, haction]
  refine ⟨fun n amount hkind hrem hamount => ?_, fun hkind => ?_, fun hkind => ?_⟩
  · have hcredits : t.credits ≠ 0 := fun h => by
      unfold kindRefusal at hrefusal
      rw [hkind] at hrefusal
      simp only [hrem, reduceCtorEq, if_false, h, if_true] at hrefusal
    have hrenew : kindAction sl r replayed g t s.received = renewAction sl r replayed g t s.received := by
      rw [kindAction, hkind]
    rw [hrenew]
    simp only [renewAction, hrem, if_neg hcredits, hamount, Option.getD_some]
    rw [State.setBody, State.setGrant_eq_withGrant, definitive_of_self (s := s)
      ((withGrant_link ..).trans hlink) (withGrant_self ..)]
    rfl
  · have hprobe : kindAction sl r replayed g t s.received = probeAction sl r replayed t s.received := by
      rw [kindAction, hkind]
    rw [hprobe]
    exact congrArg _ (definitive_of_self (s := s) hlink rfl sl r _ _ replayed)
  · intro u
    have hreturn : kindAction sl r replayed g t s.received = returnAction sl r replayed g s.received := by
      rw [kindAction, hkind]
    have hlink' : (u.withReady (u.readyAmong [g])).link = .up := by
      rw [withReady_link]
      exact (withClosed_link ..).trans hlink
    rw [hreturn, returnAction, closeGrant_eq, testReady_eq,
      definitive_of_self (s := s) hlink'
      ((withReady_self u _).trans (withClosed_self ..))]

/-! ### Binding (R76 to R79, R95) -/

/-- The lowest-numbered IDLE context (R76). -/
theorem State.idleContext_of_lowest {s : State} {k : CtxNum} (hk : (s.ctx k).state = .idle)
    (hlow : ∀ j < k, (s.ctx j).state ≠ .idle) : s.idleContext = some k :=
  find?_finRange_of_lowest (beq_iff_eq.2 hk) fun j hj => beq_eq_false_iff_ne.2 (hlow j hj)

end Sys2Proof.Machine
end


section
/-! PROOFS. Binding (R76 to R79) and the node-memory port (R93 to R97). -/

namespace Sys2Proof.Machine

/-! ### The bound context -/

theorem getElem_foldl_setIfInBounds {payload : List Line} {n : Nat} {buf : Vector Line 16} {i : Nat} (hi : i < 16) :
    ((payload.zipIdx n).foldl (fun b p => b.setIfInBounds p.2 p.1) buf)[i] =
      if i < n then buf[i] else (payload[i - n]?).getD buf[i] := by
  induction payload generalizing n buf with
  | nil => simp
  | cons l payload ih =>
    rw [List.zipIdx_cons, List.foldl_cons, ih, Vector.getElem_setIfInBounds hi]
    obtain hlt | heq | hgt := Nat.lt_trichotomy i n
    · have hne : n ≠ i := by omega
      rw [if_pos (by omega), if_pos hlt, if_neg hne]
    · subst heq
      simp
    · have hne : n ≠ i := by omega
      have hsub : i - n = i - (n + 1) + 1 := by omega
      have hlt : ¬ i < n := by omega
      have hle : ¬ i < n + 1 := by omega
      rw [if_neg hlt, if_neg hle, if_neg hne, hsub, List.getElem?_cons_succ]

/-- The buffer of a bound WRITE holds the payload's lines in order, and behind them what it held (R79). -/
theorem getElem_fillBuffer (buf : Vector Line 16) (payload : List Line) {i : Nat} (hi : i < 16) :
    (fillBuffer buf payload)[i] = (payload[i]?).getD buf[i] := by
  rw [fillBuffer, getElem_foldl_setIfInBounds hi, if_neg (Nat.not_lt_zero i), Nat.sub_zero]

/-! ### The arbiter (R95) -/

theorem mem_rotation : ∀ last c : CtxNum, c ∈ rotation last := by decide

/-- The only context with a line left is the next one. -/
theorem State.nextContext_of_only {s : State} {k : CtxNum} (hk : (s.ctx k).lineLeft = true)
    (hother : ∀ j, j ≠ k → (s.ctx j).lineLeft = false) : s.nextContext = some k := by
  unfold State.nextContext
  cases hnext : (rotation s.lastServed).find? (fun c => (s.ctx c).lineLeft) with
  | none => exact absurd hk (List.find?_eq_none.1 hnext k (mem_rotation _ k))
  | some c =>
    have hleft : (s.ctx c).lineLeft = true := List.find?_some (p := fun c => (s.ctx c).lineLeft) hnext
    by_cases hc : c = k
    · rw [hc]
    · rw [hother c hc] at hleft
      cases hleft

/-- A bound context with lines to transfer has a line left (R93). -/
theorem boundContext_lineLeft {r : Request} (h : r.count.toNat ≠ 0) (x : Ctx) (sl : SlotNum) (g : GrantNum) (t : Terms)
    (replayed : Bool) : (boundContext x sl r g t replayed).lineLeft = true := by
  unfold Ctx.lineLeft Ctx.inMemoryPhase boundContext
  cases r.kind <;> simp [Nat.pos_of_ne_zero h]

theorem ctx_withRecord (s : State) (sl : SlotNum) (x : Option Station) (c : CtxNum) :
    (s.withRecord sl x).ctx c = s.ctx c := by
  simp only [State.withRecord, State.ctx]

theorem ctx_withGrant (s : State) (g : GrantNum) (x : Grant) (c : CtxNum) : (s.withGrant g x).ctx c = s.ctx c := by
  simp only [State.withGrant, State.ctx]

/-- Binding, before the port is given (R78). -/
def bindingState (k : CtxNum) (sl : SlotNum) (r : Request) (g : GrantNum) (t : Terms) (replayed : Bool) (x : Station)
    (s : State) : State :=
  (({ s with ctxs := s.ctxs.set k.val (boundContext (s.ctx k) sl r g t replayed) k.isLt } : State).withGrant g
    { s.grant g with inFlight := (s.grant g).inFlight + 1 }).withRecord sl
      (some { x with session := x.session.map (fun e => { e with last := r.seq }), pending := some k })

theorem bind_eq {s : State} {sl : SlotNum} {x : Station} (hr : (s.slot sl).record = some x) (k : CtxNum) (r : Request)
    (g : GrantNum) (t : Terms) (replayed : Bool) :
    bind k sl r g t replayed s = givePort (bindingState k sl r g t replayed x s) := by
  simp only [bind]
  rw [State.modifyRecord_eq_withRecord (r := x) _ (by exact hr), State.setGrant_eq_withGrant]
  rfl

theorem bindingState_ctx (k : CtxNum) (sl : SlotNum) (r : Request) (g : GrantNum) (t : Terms) (replayed : Bool)
    (x : Station) (s : State) (c : CtxNum) :
    (bindingState k sl r g t replayed x s).ctx c =
      if k = c then boundContext (s.ctx k) sl r g t replayed else s.ctx c := by
  rw [bindingState, ctx_withRecord, ctx_withGrant]
  exact State.ctx_setCtx ..

theorem bindingState_port (k : CtxNum) (sl : SlotNum) (r : Request) (g : GrantNum) (t : Terms) (replayed : Bool)
    (x : Station) (s : State) : (bindingState k sl r g t replayed x s).port = s.port := by
  simp only [bindingState, State.withGrant, State.withRecord]

/-- A free port is given to the context just bound, the only one with a line left (R95). -/
theorem givePort_bindingState {s : State} {k : CtxNum} {r : Request} (hfree : s.port = .free) (he : s.PortEager)
    (hcount : r.count.toNat ≠ 0) (sl : SlotNum) (g : GrantNum) (t : Terms) (replayed : Bool) (x : Station) :
    givePort (bindingState k sl r g t replayed x s) = startLine k (bindingState k sl r g t replayed x s) := by
  refine givePort_starts ((bindingState_port ..).trans hfree) (State.nextContext_of_only ?_ fun j hj => ?_)
  · rw [bindingState_ctx, if_pos rfl]
    exact boundContext_lineLeft hcount ..
  · rw [bindingState_ctx, if_neg (Ne.symm hj)]
    exact he hfree j

/-- A READ or WRITE that passes step 13 transfers a line at least (R74). -/
theorem count_ne_zero {r : Request} {t : Terms} (hkind : r.kind = .read ∨ r.kind = .write)
    (h : kindRefusal r t = none) : r.count.toNat ≠ 0 := fun hzero => by
  unfold kindRefusal transferRefusal at h
  rcases hkind with hk | hk <;>
    · simp only [hk, hzero, reduceCtorEq, false_and, true_and, true_or, if_true, if_false] at h
      split at h <;> cases h

theorem bindingState_ctxs (k : CtxNum) (sl : SlotNum) (r : Request) (g : GrantNum) (t : Terms) (replayed : Bool)
    (x : Station) (s : State) :
    (bindingState k sl r g t replayed x s).ctxs =
      s.ctxs.set k.val (boundContext (s.ctx k) sl r g t replayed) k.isLt := by
  simp only [bindingState, State.withGrant, State.withRecord]

/-- The context just bound starts its first line (R94, R95). -/
theorem startLine_bindingState (k : CtxNum) (sl : SlotNum) (r : Request) (g : GrantNum) (t : Terms) (replayed : Bool)
    (x : Station) (s : State) :
    startLine k (bindingState k sl r g t replayed x s) =
      (({ s with
        ctxs := s.ctxs.set k.val { boundContext (s.ctx k) sl r g t replayed with issued := 1 } k.isLt
        port := .busy (some k) (boundContext (s.ctx k) sl r g t replayed).nextOp
        lastServed := k } : State).withGrant g { s.grant g with inFlight := (s.grant g).inFlight + 1 }).withRecord sl
          (some { x with session := x.session.map (fun e => { e with last := r.seq }), pending := some k }) := by
  simp only [startLine, State.setCtx, bindingState_ctxs, Vector.set_set, bindingState_ctx, if_true]
  rfl

/-- The first line operation of a bound context (R94). -/
theorem boundContext_nextOp (x : Ctx) (sl : SlotNum) {r : Request} (hkind : r.kind = .read ∨ r.kind = .write)
    (g : GrantNum) (t : Terms) (replayed : Bool) :
    (boundContext x sl r g t replayed).nextOp =
      if r.kind = .read then .read (t.base + r.offset.toNat)
      else .write (t.base + r.offset.toNat) (boundContext x sl r g t replayed).buffer[0] := by
  rcases hkind with hk | hk <;> simp [Ctx.nextOp, boundContext, hk]

/-- The fields of a bound context, as the statement puts them (R78). -/
theorem boundContext_fields (x : Ctx) (sl : SlotNum) {r : Request} (hkind : r.kind = .read ∨ r.kind = .write)
    (g : GrantNum) (t : Terms) (replayed : Bool) (issued : Nat) :
    ({ boundContext x sl r g t replayed with issued := issued } : Ctx) =
      { state := if r.kind = .read then .readMem else .writeMem, slot := sl, seq := r.seq
        write := decide (r.kind = .write), grant := g, gen := r.gen, first := t.base + r.offset.toNat
        count := r.count.toNat, issued := issued, done := 0, fault := false
        replayed := replayed, orphaned := false, buffer := (boundContext x sl r g t replayed).buffer } := by
  rcases hkind with hk | hk <;> simp [boundContext, hk]

/-- Settles O37: the lowest-numbered IDLE context is bound, and a free port given to it. -/
theorem transferBinds : Obligations.TransferBinds := by
  intro c r s sl x e replayed g t k hrow hkind hserves hpasses hnone hlive hidle hlow he
  obtain ⟨hreceive, hslot, hrecord, hbarred, hsession, hhold⟩ := id hserves
  obtain ⟨hrefusal, haction⟩ :=
    resolveRequest_reaches (s := s.received) (g := g) (t := t) hnone hlive sl replayed
  have hcount := count_ne_zero hkind hrefusal
  have hbind : kindAction sl r replayed g t s.received = bind k sl r g t replayed s.received := by
    have hcontext : s.received.idleContext = some k := State.idleContext_of_lowest (s := s.received) hidle hlow
    unfold kindRefusal at hrefusal
    unfold kindAction
    rcases hkind with h | h <;>
      · rw [h] at hrefusal ⊢
        simp only [transferAction, hrefusal, hcontext]
  rw [exec_passingRow hrow hserves hpasses, haction, hbind, bind_eq (s := s.received) hrecord]
  refine ⟨(boundContext (s.ctx k) sl r g t replayed).buffer, fun h => ?_, fun h i hi => ?_, ?_⟩
  · simp [boundContext, h]
  · simp only [boundContext, h, if_true]
    exact getElem_fillBuffer ..
  · intro bound
    have hbound : ({ boundContext (s.ctx k) sl r g t replayed with issued := if s.port = .free then 1 else 0 } : Ctx) =
        bound := boundContext_fields (s.ctx k) sl hkind g t replayed _
    refine congrArg _ ?_
    by_cases hfree : s.port = .free
    · rw [givePort_bindingState (s := s.received) hfree he hcount, startLine_bindingState]
      rw [if_pos hfree] at hbound
      simp only [if_pos hfree, ← hbound, hsession, Option.map_some, ← boundContext_nextOp _ _ hkind]
      rfl
    · have hbusy : givePort (bindingState k sl r g t replayed x s.received) =
          bindingState k sl r g t replayed x s.received := by
        cases hp : s.port with
        | free => exact absurd hp hfree
        | busy owner op => exact givePort_busy ((bindingState_port ..).trans hp)
      rw [hbusy, bindingState]
      rw [if_neg hfree] at hbound
      simp only [if_neg hfree, ← hbound, hsession, Option.map_some]
      rfl

end Sys2Proof.Machine
end


section
/-! PROOFS. The node bus (R94 to R98, R107): line operations' starts and ends, and the end of a memory phase. -/

namespace Sys2Proof.Machine

/-! ### Line operations -/

theorem exec_lineOperationStart {s : State} (h : s.inReset = false) :
    exec .lineOperationStart s = .next (givePort s) := event_running h

/-- The first context in rotating order with a line left is the next one (R95). -/
theorem State.nextContext_of_first {s : State} {j : CtxNum} (hj : (s.ctx (s.lastServed + 1 + j)).lineLeft = true)
    (hfirst : ∀ i < j, (s.ctx (s.lastServed + 1 + i)).lineLeft = false) :
    s.nextContext = some (s.lastServed + 1 + j) := by
  rw [State.nextContext, rotation, List.find?_map,
    find?_finRange_of_lowest (p := (fun c => (s.ctx c).lineLeft) ∘ fun k => s.lastServed + 1 + k) hj hfirst]
  rfl

/-- A context with a line left is reading or writing memory (R93). -/
theorem Ctx.nextOp_eq {x : Ctx} (h : x.inMemoryPhase = true) :
    x.nextOp =
      if x.state = .readMem then .read (x.first + x.issued)
      else .write (x.first + x.issued) (x.buffer[x.issued]?.getD 0) := by
  unfold Ctx.inMemoryPhase at h
  unfold Ctx.nextOp
  cases hx : x.state <;> simp [hx] at h ⊢

theorem Ctx.inMemoryPhase_of_lineLeft {x : Ctx} (h : x.lineLeft = true) : x.inMemoryPhase = true := by
  simp only [Ctx.lineLeft, Bool.and_eq_true] at h
  exact h.1.1

/-- Giving the port leaves the transmitter with nothing to take (R134). -/
theorem txTake_givePort {s : State} (he : s.TransmitterEager) : txTake (givePort s) = givePort s := by
  obtain ⟨_, _, _, h⟩ := givePort_only s
  rw [h]
  exact txTake_of_eager he

/-- A line operation's end, with the model's record of node memory (R96, R97, log 12). -/
theorem acceptWrite_eq (op : LineOp) (res : LineResult) (s : State) :
    acceptWrite op res s =
      { s with
        nodeMem := match op, res with
          | .write a l, .done _ => nodeWrite a l s.nodeMem
          | _, _ => s.nodeMem } := by
  cases op <;> cases res <;> rfl

/-- Settles O49: the arbiter's choice, and the two ends of a line operation that end no memory phase. -/
theorem lineOperationsStartAndEnd : Obligations.LineOperationsStartAndEnd := by
  intro s hreset
  refine ⟨fun h => ?_, fun j hfree hj hfirst => ?_, fun op data he => ?_⟩
  · rw [exec_lineOperationStart hreset]
    cases hp : s.port with
    | busy owner op => rw [givePort_busy hp]
    | free =>
      have hnone : s.nextContext = none := List.find?_eq_none.2 fun c _ => by
        simpa using h.resolve_left (fun hbusy => hbusy hp) c
      rw [givePort_none hnone]
  · intro c x
    rw [exec_lineOperationStart hreset, givePort_starts hfree (State.nextContext_of_first hj hfirst), startLine,
      Ctx.nextOp_eq (Ctx.inMemoryPhase_of_lineLeft hj)]
    rfl
  · intro written
    refine ⟨fun c hport hmem hmore => ?_, fun hport res => ?_⟩
    · refine ⟨_, (exec_lineDone data s).trans (event_running hreset), ?_⟩
      have hend : lineEnd (.done data) s = txTake (givePort
          ({ s with
            port := .free
            nodeMem := written (.done data)
            ctxs := s.ctxs.set c.val ((s.ctx c).recordLine data) c.isLt } : State)) := by
        simp only [lineEnd, hport, acceptWrite_eq, takeResult]
        rw [if_pos (by exact hmem), if_neg (by exact hmore)]
        rfl
      rw [hend, txTake_givePort (by exact he)]
      exact exec_lineOperationStart hreset
    · refine ⟨_, (exec_detachedLineEnd res s).trans (event_running hreset), ?_⟩
      have hend : detachedEnd res s = txTake (givePort
          ({ s with port := .free, nodeMem := written res } : State)) := by
        simp only [detachedEnd, hport, lineEnd, acceptWrite_eq]
        rfl
      rw [hend, txTake_givePort (by exact he)]
      exact exec_lineOperationStart hreset

/-! ### What a hand-over does not look at -/

/-- `s` with other contexts, another transmitter and offer list, and other frame states. -/
def State.beside (s : State) (ctxs : Vector Ctx 8) (tx : Tx) (offers : List SlotNum) (frame : SlotNum → HeadFrame) :
    State :=
  { s with
    ctxs := ctxs
    tx := tx
    offers := offers
    slots := Vector.ofFn (fun k : SlotNum => { s.slot k with frame := frame k }) }

section
variable (s : State) (ctxs : Vector Ctx 8) (tx : Tx) (offers : List SlotNum) (frame : SlotNum → HeadFrame)

@[simp] theorem beside_slot (k : SlotNum) :
    (s.beside ctxs tx offers frame).slot k = { s.slot k with frame := frame k } := by
  simp [State.beside, State.slot]

@[simp] theorem beside_grant (g : GrantNum) : (s.beside ctxs tx offers frame).grant g = s.grant g := by
  simp only [State.beside, State.grant]

theorem beside_findSlot (n : StationNum) : (s.beside ctxs tx offers frame).findSlot n = s.findSlot n :=
  findSlot_congr (fun sl => by rw [beside_slot]; rfl) n

theorem beside_unhanded :
    (s.beside ctxs tx offers frame).unhanded = { s.unhanded with ctxs := ctxs, tx := tx, offers := offers } := by
  simp only [State.unhanded, State.beside]

theorem beside_handLists : (s.beside ctxs tx offers frame).handLists = s.handLists := by
  simp only [State.handLists, State.beside]

theorem beside_holderSlot (g : GrantNum) : (s.beside ctxs tx offers frame).holderSlot g = s.holderSlot g := by
  simp only [State.holderSlot, beside_grant, beside_findSlot]

theorem beside_retiredRecord : (s.beside ctxs tx offers frame).retiredRecord = s.retiredRecord := by
  funext g
  simp only [State.retiredRecord, beside_grant]

theorem withRetired_beside (gs : List GrantNum) :
    (s.beside ctxs tx offers frame).withRetired gs = (s.withRetired gs).beside ctxs tx offers frame := by
  have hlists := beside_handLists s ctxs tx offers frame
  simp only [State.handLists, Prod.mk.injEq] at hlists
  obtain ⟨hfree, hindex, hcq, hbacklog, halerts⟩ := hlists
  refine State.eq_of_handed ?_ (fun g => ?_) (fun k => ?_) ?_
  · rw [withRetired_unhanded, beside_unhanded, beside_unhanded, withRetired_unhanded]
  · rw [withRetired_grant, beside_grant, beside_grant, withRetired_grant]
  · simp only [withRetired_slot, beside_slot, beside_holderSlot]
  · rw [withRetired_handLists, beside_handLists, withRetired_handLists, hfree, hindex, hcq, hbacklog, halerts,
      beside_retiredRecord]

theorem withWaiting_beside (gs : List GrantNum) :
    (s.beside ctxs tx offers frame).withWaiting gs = (s.withWaiting gs).beside ctxs tx offers frame := by
  have hlists := beside_handLists s ctxs tx offers frame
  simp only [State.handLists, Prod.mk.injEq] at hlists
  obtain ⟨hfree, hindex, hcq, hbacklog, halerts⟩ := hlists
  refine State.eq_of_handed ?_ (fun g => ?_) (fun k => ?_) ?_
  · rw [withWaiting_unhanded, beside_unhanded, beside_unhanded, withWaiting_unhanded]
  · rw [withWaiting_grant, beside_grant, beside_grant, withWaiting_grant]
  · simp only [withWaiting_slot, beside_slot]
  · rw [withWaiting_handLists, beside_handLists, withWaiting_handLists, hfree, hindex, hcq, hbacklog, halerts]

/-- The hand-over of grants is the same whatever the contexts, the transmitter and the frames. -/
theorem withReady_beside (gs : List GrantNum) :
    (s.beside ctxs tx offers frame).withReady gs = (s.withReady gs).beside ctxs tx offers frame := by
  have hlists := beside_handLists s ctxs tx offers frame
  simp only [State.handLists, Prod.mk.injEq] at hlists
  obtain ⟨hfree, hindex, hcq, hbacklog, halerts⟩ := hlists
  have hroom : (s.beside ctxs tx offers frame).room gs.length = s.room gs.length := by
    rw [State.room, State.room, hbacklog, hcq]
  rw [State.withReady, State.withReady, hroom, withRetired_beside, withWaiting_beside]

theorem readyAmong_beside (gs : List GrantNum) :
    (s.beside ctxs tx offers frame).readyAmong gs = s.readyAmong gs := readyAmong_congr
      (fun g => beside_grant s ctxs tx offers frame g) gs

theorem withGrant_beside (g : GrantNum) (x : Grant) :
    (s.beside ctxs tx offers frame).withGrant g x = (s.withGrant g x).beside ctxs tx offers frame := by
  rw [← State.setGrant_eq_withGrant, ← State.setGrant_eq_withGrant]
  rfl

/-- Other contexts alone. -/
theorem beside_ctxs : s.beside ctxs s.tx s.offers (fun k => (s.slot k).frame) = { s with ctxs := ctxs } := by
  have hslots : Vector.ofFn (fun k : SlotNum => { s.slot k with frame := (s.slot k).frame }) = s.slots :=
    State.ofFn_slot s
  rw [State.beside, hslots]

end

/-! ### The end of a memory phase -/

/-- The state behind step 1 of the end of a memory phase on grant `g` (R98). -/
def State.withLowered (s : State) (g : GrantNum) : State :=
  let u := s.withGrant g { s.grant g with inFlight := (s.grant g).inFlight - 1 }
  u.withReady (u.readyAmong [g])

theorem lowerInFlight_eq (g : GrantNum) (s : State) : lowerInFlight g s = s.withLowered g := by
  rw [lowerInFlight, State.setGrant_eq_withGrant, testReady_eq]
  rfl

theorem withLowered_beside (s : State) (ctxs : Vector Ctx 8) (tx : Tx) (offers : List SlotNum)
    (frame : SlotNum → HeadFrame) (g : GrantNum) :
    (s.beside ctxs tx offers frame).withLowered g = (s.withLowered g).beside ctxs tx offers frame := by
  simp only [State.withLowered, beside_grant, withGrant_beside, readyAmong_beside, withReady_beside]

/-- A hand-over leaves frames as they are. -/
theorem withReady_frame (s : State) (gs : List GrantNum) (k : SlotNum) :
    ((s.withReady gs).slot k).frame = (s.slot k).frame := by
  rw [State.withReady, withWaiting_slot, withRetired_slot]

theorem withLowered_only (s : State) (g : GrantNum) :
    ∃ grants index freeList slots cq backlog alerts,
      s.withLowered g = { s with
        grants := grants, index := index, freeList := freeList, slots := slots, cq := cq, backlog := backlog,
        alerts := alerts } := by
  obtain ⟨_, _, _, _, _, _, _, h⟩ := lowerInFlight_only g s
  rw [← lowerInFlight_eq, h]
  exact ⟨_, _, _, _, _, _, _, rfl⟩

theorem withLowered_frame (s : State) (g : GrantNum) (k : SlotNum) :
    ((s.withLowered g).slot k).frame = (s.slot k).frame := by
  rw [State.withLowered, withReady_frame, ← State.setGrant_eq_withGrant, State.slot_setGrant_other]

/-- Contexts and the fall of an in-flight count do not meddle. -/
theorem withLowered_ctxs (s : State) (g : GrantNum) (ctxs : Vector Ctx 8) :
    ({ s with ctxs := ctxs } : State).withLowered g = { s.withLowered g with ctxs := ctxs } := by
  have htx : (s.withLowered g).tx = s.tx := by
    obtain ⟨_, _, _, _, _, _, _, h⟩ := withLowered_only s g
    rw [h]
  have hoffers : (s.withLowered g).offers = s.offers := by
    obtain ⟨_, _, _, _, _, _, _, h⟩ := withLowered_only s g
    rw [h]
  rw [← beside_ctxs, withLowered_beside, ← beside_ctxs (s.withLowered g), htx, hoffers]
  simp only [withLowered_frame]

end Sys2Proof.Machine
end


section
/-! PROOFS. The end of a memory phase (R98 to R101). -/

namespace Sys2Proof.Machine

/-- The state behind step 2 of the end of a memory phase: the reply cache is set (R98). -/
def State.withCached (s : State) (x : Ctx) : State :=
  s.withRecord x.slot ((s.slot x.slot).record.map (fun y =>
    { y with cache := some { kind := x.kind, seq := x.seq, status := x.status, value := x.value } }))

theorem setCache_eq (x : Ctx) (s : State) : setCache x s = s.withCached x :=
  s.setSlot_record_eq_withRecord x.slot _

theorem withCached_ctxs (s : State) (x : Ctx) (ctxs : Vector Ctx 8) :
    ({ s with ctxs := ctxs } : State).withCached x = { s.withCached x with ctxs := ctxs } := by
  rw [← setCache_eq, ← setCache_eq]
  rfl

/-- What the end of a memory phase leaves of a state in which context `x` stands at `c` (R98 to R101): `s` is the state
before, in which the context's own fields do not matter. -/
def State.phaseEnded (s : State) (c : CtxNum) (x : Ctx) (dest : StationNum) : State :=
  let v := s.withLowered x.grant
  if x.orphaned then ({ v with ctxs := s.ctxs.set c.val { x with state := .idle } c.isLt } : State).withDrainTest
  else if s.link = .up then
    { v.withCached x with
      ctxs := s.ctxs.set c.val { x with state := .replyWait } c.isLt
      replyQ := s.replyQ ++ [{ origin := .context c, frame := x.reply s.self dest }] }
  else (({ v.withCached x with ctxs := s.ctxs.set c.val x c.isLt } : State).withContextIdle c).withDrainTest

/-- A hand-over leaves station numbers as they are. -/
theorem withLowered_number (s : State) (g : GrantNum) (k : SlotNum) :
    ((s.withLowered g).slot k).number? = (s.slot k).number? := by
  rw [State.withLowered, State.withReady, withWaiting_slot, withRetired_slot, ← State.setGrant_eq_withGrant,
    State.slot_setGrant_other, Slot.number?, Slot.number?, Option.map_map]
  rfl

/-- A context set and then moved to a state. -/
theorem setCtx_enter (s : State) (c : CtxNum) (x : Ctx) (st : CtxState) :
    (s.setCtx c x).enter c st = s.setCtx c { x with state := st } := by
  rw [State.enter, State.ctx_setCtx_self]
  simp only [State.setCtx, Vector.set_set]

theorem setCtx_withCached (s : State) (c : CtxNum) (x : Ctx) :
    (s.setCtx c x).withCached x = (s.withCached x).setCtx c x := by
  rw [State.setCtx, withCached_ctxs, ← setCache_eq]
  rfl

/-- The record that the reply cache is set in. -/
theorem withCached_record {s : State} {x : Ctx} {n : StationNum} (h : (s.slot x.slot).number? = some n) :
    ∃ r, ((s.withCached x).slot x.slot).record = some r ∧ r.number = n := by
  obtain ⟨r, hr, hn⟩ := Option.map_eq_some_iff.1 h
  rw [← setCache_eq, setCache]
  exact ⟨_, record_modifyRecord hr, hn⟩

/-- A context that goes to IDLE, its pending mark cleared (R100). -/
theorem clearPending_setCtx (s : State) (c : CtxNum) (x : Ctx) :
    clearPending c x.slot ((s.setCtx c x).enter c .idle) = (s.setCtx c x).withContextIdle c := by
  have h := clearPending_enter_idle c (s.setCtx c x)
  rwa [State.ctx_setCtx_self] at h

/-- The end of a memory phase, as described (R98 to R101). -/
theorem endPhase_eq {s : State} {c : CtxNum} {x : Ctx} {r : Station}
    (hr : x.orphaned = false → (s.slot x.slot).record = some r) :
    endPhase c (s.setCtx c x) = s.phaseEnded c x r.number := by
  obtain ⟨_, _, _, _, _, _, _, honly⟩ := withLowered_only s x.grant
  have hctxs : (s.withLowered x.grant).ctxs = s.ctxs := by rw [honly]
  have hlink : (s.withLowered x.grant).link = s.link := by rw [honly]
  have hreplyQ : (s.withLowered x.grant).replyQ = s.replyQ := by rw [honly]
  have hself : (s.withLowered x.grant).self = s.self := by rw [honly]
  have hlowered : lowerInFlight x.grant (s.setCtx c x) = (s.withLowered x.grant).setCtx c x := by
    rw [lowerInFlight_eq, State.setCtx, withLowered_ctxs, State.setCtx, hctxs]
  have hnumber := withLowered_number s x.grant x.slot
  clear honly
  unfold endPhase State.phaseEnded
  simp only [State.ctx_setCtx_self, hlowered]
  generalize s.withLowered x.grant = v at hctxs hlink hreplyQ hself hnumber ⊢
  by_cases ho : x.orphaned = true
  · rw [if_pos ho, if_pos ho, setCtx_enter, drainTest_eq_withDrainTest, State.setCtx, hctxs]
  · have hslot : (v.slot x.slot).number? = some r.number := by
      rw [hnumber, Slot.number?, hr (Bool.eq_false_iff.2 ho)]
      rfl
    obtain ⟨y, hy, hyn⟩ := withCached_record (x := x) hslot
    have hcached : (v.withCached x).ctxs = v.ctxs ∧ (v.withCached x).link = v.link ∧
        (v.withCached x).replyQ = v.replyQ ∧ (v.withCached x).self = v.self := by
      rw [← setCache_eq]
      exact ⟨rfl, rfl, rfl, rfl⟩
    obtain ⟨hctxs', hlink', hreplyQ', hself'⟩ := hcached
    rw [if_neg ho, if_neg ho, setCache_eq, setCtx_withCached, clearPending_setCtx]
    generalize v.withCached x = w at hctxs' hlink' hreplyQ' hself' hy ⊢
    simp only [State.slot_setCtx_other, hy]
    have hlinks : (w.setCtx c x).link = s.link := hlink'.trans hlink
    by_cases hup : s.link = .up
    · rw [if_pos hup, if_pos (hlinks.trans hup), hyn]
      rw [setCtx_enter]
      simp only [State.setCtx, hctxs', hctxs, hreplyQ', hreplyQ, hself', hself]
    · rw [if_neg hup, if_neg fun h => hup (hlinks.symm.trans h), drainTest_eq_withDrainTest]
      simp only [State.setCtx, hctxs', hctxs]

/-- The state behind a line operation's end for its context's result: the port is free, an accepted line is written, and
a fault is latched (R96, R97). -/
def State.withLineEnded (s : State) (op : LineOp) (fault : Bool) : State :=
  { s with
    port := .free
    nodeMem := match op, fault with
      | .write a l, false => nodeWrite a l s.nodeMem
      | _, _ => s.nodeMem
    alerts := { s.alerts with busFault := s.alerts.busFault || fault } }

/-- A line operation that ends its context's memory phase at its last line (R96). -/
theorem lineEnd_lastLine {s : State} {op : LineOp} {c : CtxNum} (hport : s.port = .busy (some c) op)
    (hmem : (s.ctx c).inMemoryPhase = true) (hlast : (s.ctx c).done + 1 = (s.ctx c).count) (data : Line) :
    lineEnd (.done data) s =
      txTake (givePort (endPhase c ((s.withLineEnded op false).setCtx c ((s.ctx c).recordLine data)))) := by
  have hwritten : ({ s with port := .free, nodeMem := (acceptWrite op (.done data) s).nodeMem } : State) =
      s.withLineEnded op false := by
    cases op <;> simp [acceptWrite, State.withLineEnded]
  have haccept : acceptWrite op (.done data) { s with port := .free } = s.withLineEnded op false := by
    rw [← hwritten]
    cases op <;> rfl
  simp only [lineEnd, hport, haccept, takeResult]
  rw [if_pos (by exact hmem), if_pos (by exact hlast)]
  rfl

/-- A line operation that ends its context's memory phase by a bus fault (R97). -/
theorem lineEnd_fault {s : State} {op : LineOp} {c : CtxNum} (hport : s.port = .busy (some c) op)
    (hmem : (s.ctx c).inMemoryPhase = true) :
    lineEnd .fault s =
      txTake (givePort (endPhase c ((s.withLineEnded op true).setCtx c { s.ctx c with fault := true }))) := by
  have haccept : acceptWrite op .fault { s with port := .free } = { s with port := .free } := by
    cases op <;> rfl
  have hended : s.withLineEnded op true = { s with port := .free, alerts := { s.alerts with busFault := true } } := by
    cases op <;> simp [State.withLineEnded]
  simp only [lineEnd, hport, haccept, takeResult, hended]
  rw [if_pos (by exact hmem)]
  rfl

/-- What the end of a memory phase leaves, with the context's outcome spelled out. -/
theorem phaseEnded_of_fault {s : State} {c : CtxNum} {x : Ctx} {dest : StationNum} {fault : Bool}
    (hfault : x.fault = fault) :
    s.phaseEnded c x dest =
      (let kind : ReqKind := if x.write then .write else .read
       let status : ReplyStatus := if fault then .memFault else .ok
       let value : Word := BitVec.ofNat 32 (if fault then x.done else x.count)
       let v := s.withLowered x.grant
       let cached := v.withRecord x.slot ((v.slot x.slot).record.map (fun y =>
         { y with cache := some { kind := kind, seq := x.seq, status := status, value := value } }))
       if x.orphaned then ({ v with ctxs := s.ctxs.set c.val { x with state := .idle } c.isLt } : State).withDrainTest
       else if s.link = .up then
         { cached with
           ctxs := s.ctxs.set c.val { x with state := .replyWait } c.isLt
           replyQ := s.replyQ ++
             [{ origin := .context c
                frame :=
                  { dest := dest, src := s.self, seq := x.seq, grant := BitVec.ofNat 16 x.grant.val, gen := x.gen
                    replayed := x.replayed, kind := kind.code, status := status, value := value
                    data := if kind = .read ∧ fault = false then x.buffer.toList.take x.count else [] } }] }
       else (({ cached with ctxs := s.ctxs.set c.val x c.isLt } : State).withContextIdle c).withDrainTest) := by
  have hkind : x.kind = .read ↔ x.write = false := by
    unfold Ctx.kind
    cases x.write <;> simp
  subst hfault
  simp only [State.phaseEnded, State.withCached, Ctx.reply, ← hkind]
  rfl

/-- Settles O50: the context's result is taken, its memory phase ends, and the port and the transmitter go on. -/
theorem memoryPhaseEnds : Obligations.MemoryPhaseEnds := by
  intro s op data c r fault hreset hport hmem hrecord hdone x status value kind u v cached ended
  have hfault : x.fault = fault := by
    cases fault with
    | true => rfl
    | false => exact (hdone rfl).2
  have hended : (s.withLineEnded op fault).phaseEnded c x r.number = ended := phaseEnded_of_fault hfault
  have hcontext : x.orphaned = (s.ctx c).orphaned ∧ x.slot = (s.ctx c).slot := by
    cases fault <;> exact ⟨rfl, rfl⟩
  have hphase : endPhase c ((s.withLineEnded op fault).setCtx c x) = ended := by
    rw [← hended]
    exact endPhase_eq fun ho => by
      rw [hcontext.2]
      exact hrecord (hcontext.1.symm.trans ho)
  have hreset' : ended.inReset = false := by
    obtain ⟨_, _, _, _, _, _, _, _, _, _, honly⟩ :=
      endPhase_only c ((s.withLineEnded op fault).setCtx c x)
    rw [← hphase, honly]
    exact hreset
  obtain ⟨_, _, _, hgiven⟩ := givePort_only ended
  refine ⟨_, _, exec_lineOperationStart hreset', (exec_transmitStart _).trans (event_running ?_), ?_⟩
  · rw [hgiven]
    exact hreset'
  · cases fault with
    | true =>
      refine (event_running (f := lineEnd .fault) hreset).trans ?_
      rw [lineEnd_fault hport hmem]
      exact congrArg (fun u => Host.Outcome.next (txTake (givePort u))) hphase
    | false =>
      refine (event_running (f := lineEnd (.done data)) hreset).trans ?_
      rw [lineEnd_lastLine hport hmem (hdone rfl).1]
      exact congrArg (fun u => Host.Outcome.next (txTake (givePort u))) hphase

end Sys2Proof.Machine
end


section
/-! PROOFS. Notices that end (R116, R117, R120), and the NOTICE_ACK that ends one. -/

namespace Sys2Proof.Machine

/-! ### The withdrawal of a frame, where offers and transmission agree with the slots -/

/-- The transmitter once slot `sl`'s frame is detached (R117). -/
def Tx.detached (t : Tx) (sl : SlotNum) : Tx :=
  match t with
  | .notice (some k) f => .notice (if k = sl then none else some k) f
  | t => t

theorem Tx.detached_of_ne {t : Tx} {sl : SlotNum} (h : ∀ f, t ≠ .notice (some sl) f) : t.detached sl = t := by
  unfold Tx.detached
  split
  · next k f =>
    have hk : k ≠ sl := fun hk => h f (by rw [hk])
    rw [if_neg hk]
  · rfl

theorem withdrawFrame_offers {sl : SlotNum} {s : State} (hs : s.OffersSound) :
    (withdrawFrame sl s).offers = s.offers.filter (fun k => k != sl) := by
  have hkept : (∀ f, (s.slot sl).frame ≠ .offered f) → s.offers = s.offers.filter (fun k => k != sl) := fun h => by
    refine (List.filter_eq_self.2 fun k hk => ?_).symm
    rw [bne_iff_ne]
    rintro rfl
    obtain ⟨f, hf⟩ := (hs.2 k).1.1 hk
    exact h f hf
  unfold withdrawFrame
  split
  · next hf => exact hkept fun f h => by rw [hf] at h; cases h
  · rfl
  · next hf => exact hkept fun f h => by rw [hf] at h; cases h

theorem withdrawFrame_tx {sl : SlotNum} {s : State} (hs : s.OffersSound) :
    (withdrawFrame sl s).tx = s.tx.detached sl := by
  have hkept : (s.slot sl).frame ≠ .sending → s.tx = s.tx.detached sl := fun h =>
    (Tx.detached_of_ne fun f hf => h ((hs.2 sl).2.2 ⟨f, hf⟩)).symm
  unfold withdrawFrame
  split
  · next hf => exact hkept fun h => by rw [hf] at h; cases h
  · next hf => exact hkept fun h => by rw [hf] at h; cases h
  · unfold Tx.detached
    cases s.tx with
    | free | reply => rfl
    | notice owner f =>
      cases owner with
      | none => rfl
      | some k => exact (apply_ite (fun o => Tx.notice o f) (k = sl) none (some k)).symm

section
variable (s : State) (sl : SlotNum) (gs : List GrantNum) (outcome : Notice) (rest : List GrantNum)

@[simp] theorem withNoticesEnded_grant (g : GrantNum) :
    (s.withNoticesEnded sl gs outcome rest).grant g =
      if g ∈ gs then (s.grant g).withNotice outcome else s.grant g := by
  simp [State.withNoticesEnded, State.grant]

@[simp] theorem withNoticesEnded_slot (k : SlotNum) :
    (s.withNoticesEnded sl gs outcome rest).slot k =
      if k = sl then { s.slot k with queue := rest, frame := .none } else s.slot k := by
  simp [State.withNoticesEnded, State.slot]

/-- Beside grants and slots, the ending of notices acts on the offer list and the transmitter. -/
theorem withNoticesEnded_beside :
    ({ s with
      grants := (s.withNoticesEnded sl gs outcome rest).grants
      slots := (s.withNoticesEnded sl gs outcome rest).slots
      offers := s.offers.filter (fun k => k != sl)
      tx := s.tx.detached sl } : State) = s.withNoticesEnded sl gs outcome rest := by
  have htx : s.tx.detached sl = (s.withNoticesEnded sl gs outcome rest).tx := by
    cases htx : s.tx with
    | free | reply => simp only [State.withNoticesEnded, htx, Tx.detached]
    | notice owner f => cases owner <;> simp only [State.withNoticesEnded, htx, Tx.detached]
  rw [htx]
  simp only [State.withNoticesEnded]

end

/-- A head leaves its queue with an outcome as described (R117). -/
theorem leaveQueue_eq {sl : SlotNum} {s : State} {g : GrantNum} {rest : List GrantNum}
    (hq : (s.slot sl).queue = g :: rest) (hs : s.OffersSound) (outcome : Notice) :
    leaveQueue sl outcome s = s.withNoticesEnded sl [g] outcome rest := by
  have hoffers : (leaveQueue sl outcome s).offers = s.offers.filter (fun k => k != sl) := by
    simp only [leaveQueue, hq]
    obtain ⟨_, h⟩ := setNotice_only g outcome s
    rw [State.setSlot_offers, h]
    exact withdrawFrame_offers hs
  have htx : (leaveQueue sl outcome s).tx = s.tx.detached sl := by
    simp only [leaveQueue, hq]
    obtain ⟨_, h⟩ := setNotice_only g outcome s
    rw [State.setSlot_tx, h]
    exact withdrawFrame_tx hs
  refine State.eq_of_grants_slots (fun k => ?_) (fun k => ?_) ?_
  · rw [leaveQueue_grant hq, withNoticesEnded_grant]
    simp only [List.mem_singleton, eq_comm]
  · rw [leaveQueue_slot hq, withNoticesEnded_slot]
    simp only [eq_comm]
  · obtain ⟨_, _, _, _, honly⟩ := leaveQueue_only sl outcome s
    rw [honly] at hoffers htx
    rw [honly, hoffers, htx]
    exact withNoticesEnded_beside s sl [g] outcome rest

/-- A whole queue ends at its station's restart as described (R120). -/
theorem abandonQueue_eq {sl : SlotNum} {s : State} (hs : s.OffersSound) (outcome : Notice) (gs : List GrantNum) :
    gs.foldl (fun s g => setNotice g outcome s) (abandonQueue sl s) = s.withNoticesEnded sl gs outcome [] := by
  have hnotices : ∀ u : State, ∃ grants,
      gs.foldl (fun s g => setNotice g outcome s) u = { u with grants := grants } := by
    intro u
    induction gs generalizing u with
    | nil => exact ⟨u.grants, rfl⟩
    | cons g gs ih =>
      obtain ⟨_, h⟩ := setNotice_only g outcome u
      obtain ⟨grants, h'⟩ := ih (setNotice g outcome u)
      exact ⟨grants, by rw [List.foldl_cons, h', h]⟩
  have hoffers : (abandonQueue sl s).offers = s.offers.filter (fun k => k != sl) := withdrawFrame_offers hs
  have htx : (abandonQueue sl s).tx = s.tx.detached sl := withdrawFrame_tx hs
  refine State.eq_of_grants_slots (fun k => ?_) (fun k => ?_) ?_
  · rw [foldl_setNotice_grant, abandonQueue_grant, withNoticesEnded_grant]
  · rw [foldl_setNotice_slot, abandonQueue_slot, withNoticesEnded_slot]
    simp only [eq_comm]
  · obtain ⟨_, hended⟩ := hnotices (abandonQueue sl s)
    obtain ⟨_, _, _, honly⟩ := abandonQueue_only sl s
    rw [honly] at hoffers htx
    rw [hended, honly, hoffers, htx]
    exact withNoticesEnded_beside s sl gs outcome []

/-! ### The transmitter's choice and the hand-over of grants -/

theorem withReady_keeps (s : State) (gs : List GrantNum) :
    (s.withReady gs).link = s.link ∧ (s.withReady gs).tx = s.tx ∧ (s.withReady gs).replyQ = s.replyQ ∧
      (s.withReady gs).offers = s.offers ∧ (s.withReady gs).ctxs = s.ctxs := by
  simp only [State.withReady, State.withRetired, State.withWaiting, and_self]

/-- A choice of the transmitter, as a change beside what a hand-over looks at. -/
theorem beside_tx (s : State) (tx : Tx) :
    s.beside s.ctxs tx s.offers (fun k => (s.slot k).frame) = { s with tx := tx } := by
  rw [← beside_ctxs { s with tx := tx } s.ctxs]
  rfl

theorem beside_taken (s : State) (tx : Tx) (offers : List SlotNum) (sl : SlotNum) :
    s.beside s.ctxs tx offers (fun k => if sl = k then .sending else (s.slot k).frame) =
      { s.setSlot sl { s.slot sl with frame := .sending } with tx := tx, offers := offers } := by
  refine State.eq_of_slots (fun k => ?_) (by simp only [State.beside, State.setSlot])
  refine (beside_slot ..).trans (Eq.trans ?_ (slot_with_tx_offers (s.setSlot sl _) tx offers k).symm)
  rw [State.slot_setSlot]
  by_cases h : sl = k
  · subst h
    simp
  · simp [h]

/-- The transmitter's choice, beside a hand-over (R35, R134). -/
theorem txTake_withReady {s : State} (hs : ∀ sl ∈ s.offers, ∃ f, (s.slot sl).frame = .offered f) (gs : List GrantNum) :
    txTake (s.withReady gs) = (txTake s).withReady gs := by
  obtain ⟨hlink, htx, hreply, hoffers, hctxs⟩ := withReady_keeps s gs
  by_cases hup : s.link = .up ∧ s.tx = .free
  · obtain ⟨hup, hfree⟩ := hup
    cases hr : s.replyQ with
    | cons q rest =>
      rw [txTake_reply (hlink.trans hup) (htx.trans hfree) (hreply.trans hr), txTake_reply hup hfree hr, ← beside_tx,
        ← beside_tx, withReady_beside, hctxs, hoffers]
      simp only [withReady_frame]
    | nil =>
      cases ho : s.offers with
      | nil => rw [txTake_idle (hreply.trans hr) (hoffers.trans ho), txTake_idle hr ho]
      | cons sl rest =>
        obtain ⟨f, hf⟩ := hs sl (by rw [ho]; exact List.mem_cons_self)
        rw [txTake_notice (hlink.trans hup) (htx.trans hfree) (hreply.trans hr) (hoffers.trans ho)
            ((withReady_frame s gs sl).trans hf),
          txTake_notice hup hfree hr ho hf, ← beside_taken, ← beside_taken, withReady_beside, hctxs]
        simp only [withReady_frame]
  · by_cases hl : s.link = .up
    · have hbusy : s.tx ≠ .free := fun h => hup ⟨hl, h⟩
      rw [txTake_busy fun h => hbusy (htx.symm.trans h), txTake_busy hbusy]
    · rw [txTake_link_not_up fun h => hl (hlink.symm.trans h), txTake_link_not_up hl]

/-! ### NOTICE_ACK -/

/-- The new heads among one slot's (R111). -/
theorem newHeads_filter (s : State) (sl : SlotNum) :
    s.newHeads.filter (fun k => k == sl) = if sl ∈ s.newHeads then [sl] else [] := by
  rw [List.filter_beq]
  by_cases h : sl ∈ s.newHeads
  · rw [if_pos h, List.count_eq_one_of_mem (newHeads_nodup s) h]
    rfl
  · rw [if_neg h, List.count_eq_zero_of_not_mem h]
    rfl

/-- The offer of one slot's new head (R111). -/
theorem offerNewHead_withOffered (sl : SlotNum) (s : State) :
    offerNewHead sl s = s.withOffered (s.newHeads.filter (fun k => k == sl)) := by
  rw [offerNewHead_eq, newHeads_filter]
  split
  · rfl
  · exact (withOffered_nil s).symm

/-- A new head has a frame to offer (R111, R112). -/
theorem headFrame_of_mem_newHeads {s : State} {sl : SlotNum} (h : sl ∈ s.newHeads) : ∃ f, s.headFrame sl = some f :=
  headFrame_of_headNotice (State.mem_newHeads.1 h).2.2

/-- Offers of new heads with the transmitter's choice (R111, R134). -/
theorem txTake_withOffered_newHeads {s : State} (he : s.TransmitterEager) {due : List SlotNum}
    (hdue : ∀ sl ∈ due, sl ∈ s.newHeads) : txTake (s.withOffered due) = s.withOffers due :=
  txTake_withOffered he
    (fun hne => by
      obtain ⟨sl, hsl⟩ := List.exists_mem_of_ne_nil due hne
      exact (State.mem_newHeads.1 (hdue sl hsl)).1)
    fun sl hsl => headFrame_of_mem_newHeads (hdue sl hsl)

theorem withNoticesEnded_link (s : State) (sl : SlotNum) (gs : List GrantNum) (outcome : Notice)
    (rest : List GrantNum) : (s.withNoticesEnded sl gs outcome rest).link = s.link := by
  simp only [State.withNoticesEnded]

/-- The ending of notices leaves an eager transmitter eager. -/
theorem withNoticesEnded_eager {s : State} (h : s.TransmitterEager) (sl : SlotNum) (gs : List GrantNum)
    (outcome : Notice) (rest : List GrantNum) : (s.withNoticesEnded sl gs outcome rest).TransmitterEager := by
  rw [← withNoticesEnded_beside]
  intro hlink htx
  have hfree : s.tx = .free := by
    have hdetached : s.tx.detached sl = .free := htx
    unfold Tx.detached at hdetached
    split at hdetached
    · cases hdetached
    · exact hdetached
  obtain ⟨hreply, hoffers⟩ := h hlink hfree
  exact ⟨hreply, by simp [hoffers]⟩

/-- The frames offered after the ending of notices are those of slots in the offer list. -/
theorem withNoticesEnded_offered {s : State} (h : s.OffersSound) (sl : SlotNum) (gs : List GrantNum)
    (outcome : Notice) (rest : List GrantNum) :
    ∀ k ∈ (s.withNoticesEnded sl gs outcome rest).offers,
      ∃ f, ((s.withNoticesEnded sl gs outcome rest).slot k).frame = .offered f := fun k hk => by
  have hoffers : (s.withNoticesEnded sl gs outcome rest).offers = s.offers.filter (fun k => k != sl) := by
    simp only [State.withNoticesEnded]
  rw [hoffers, List.mem_filter, bne_iff_ne] at hk
  obtain ⟨f, hf⟩ := (h.2 k).1.1 hk.1
  exact ⟨f, by rw [withNoticesEnded_slot, if_neg hk.2, hf]⟩

/-- Offers leave only offered frames in the offer list. -/
theorem withOffered_offered {s : State} (h : ∀ k ∈ s.offers, ∃ f, (s.slot k).frame = .offered f) {due : List SlotNum}
    (hdue : ∀ k ∈ due, ∃ f, s.headFrame k = some f) :
    ∀ k ∈ (s.withOffered due).offers, ∃ f, ((s.withOffered due).slot k).frame = .offered f := fun k hk => by
  have hoffers : (s.withOffered due).offers = s.offers ++ due := by simp only [State.withOffered]
  rw [withOffered_slot]
  by_cases hd : k ∈ due
  · obtain ⟨f, hf⟩ := hdue k hd
    exact ⟨f, by rw [if_pos hd, hf]; rfl⟩
  · rw [if_neg hd]
    rw [hoffers, List.mem_append] at hk
    exact h k (hk.resolve_right hd)

/-- The match of a reference against a queue's head (R116). -/
theorem matchesHead_cons {s : State} {sl : SlotNum} {g : GrantNum} {rest : List GrantNum}
    (hq : (s.slot sl).queue = g :: rest) (grant : BitVec 16) (gen : Byte) :
    s.matchesHead sl grant gen = if g.val = grant.toNat ∧ (s.grant g).gen = gen then some g else none := by
  simp only [State.matchesHead, hq]

/-- Settles O42: the head's notice ends, the next head is offered, and the grant is handed over if ready. -/
theorem noticeAckEndsNotice : Obligations.NoticeAckEndsNotice := by
  intro src seq grant gen s sl hreceive hslot
  refine ⟨fun hnone => ?_, fun g rest t c hq hg hgen hb hoffers he => ?_⟩
  · have hmatch : s.received.matchesHead sl grant gen = none := by
      obtain hq | ⟨g, rest, hq, hnot⟩ := hnone
      · have hq' : (s.received.slot sl).queue = [] := hq
        simp only [State.matchesHead, hq']
      · exact (matchesHead_cons (s := s.received) hq grant gen).trans (if_neg hnot)
    rw [exec_noticeAckRow hreceive]
    refine congrArg _ ?_
    have hslot' : s.received.findSlot src = some sl := hslot
    simp only [takeNoticeAck, hslot', hmatch]
  · intro u v
    have hmatch : s.received.matchesHead sl grant gen = some g :=
      (matchesHead_cons (s := s.received) hq grant gen).trans (if_pos ⟨hg, hgen⟩)
    have hslot' : s.received.findSlot src = some sl := hslot
    have hleave : leaveQueue sl .acked s.received = u := leaveQueue_eq (s := s.received) hq hoffers .acked
    have hdue : ∀ k ∈ u.newHeads.filter (fun k => k == sl), k ∈ u.newHeads := fun k hk => (List.mem_filter.1 hk).1
    have hready : (u.withOffered (u.newHeads.filter (fun k => k == sl))).readyAmong [g] = u.readyAmong [g] :=
      readyAmong_congr (withOffered_grant u _) [g]
    have htake : txTake (u.withOffered (u.newHeads.filter (fun k => k == sl))) = v :=
      txTake_withOffered_newHeads (withNoticesEnded_eager (s := s.received) he sl [g] .acked rest) hdue
    rw [exec_noticeAckRow hreceive]
    refine congrArg _ ?_
    simp only [takeNoticeAck, hslot', hmatch, hleave]
    rw [offerNewHead_withOffered, testReady_eq, hready, txTake_withReady, htake]
    exact withOffered_offered (withNoticesEnded_offered (s := s.received) hoffers sl [g] .acked rest)
      fun k hk => headFrame_of_mem_newHeads (hdue k hk)

end Sys2Proof.Machine
end


section
/-! PROOFS. HELLO (R50 to R53): resynchronisation, restart, and admission. -/

namespace Sys2Proof.Machine

/-! ### Resynchronisation (R52) -/

/-- The contexts once the pending mark `p` is orphaned (R52, R101). -/
def State.withOrphaned (s : State) (p : Option CtxNum) : State :=
  { s with
    ctxs := Vector.ofFn (fun c : CtxNum =>
      if p = some c ∧ (s.ctx c).inMemoryPhase = true then { s.ctx c with orphaned := true } else s.ctx c) }

theorem State.ofFn_ctx (s : State) : Vector.ofFn s.ctx = s.ctxs := by
  ext i hi
  simp [State.ctx]

/-- The orphaning of a pending memory phase, as a new table. -/
theorem orphanPending_eq (p : Option CtxNum) (s : State) : orphanPending p s = s.withOrphaned p := by
  have hsame : ∀ {f : CtxNum → Ctx}, (∀ c, f c = s.ctx c) → { s with ctxs := Vector.ofFn f } = s := fun h => by
    rw [funext h, State.ofFn_ctx]
  unfold State.withOrphaned
  cases p with
  | none => exact (hsame fun c => if_neg (by simp)).symm
  | some d =>
    simp only [orphanPending]
    by_cases hm : (s.ctx d).inMemoryPhase = true
    · rw [if_pos hm, State.setCtx, vector_set_eq_ofFn]
      congr 1
      refine congrArg Vector.ofFn (funext fun c => ?_)
      by_cases hc : c = d
      · rw [if_pos hc, if_pos ⟨congrArg some hc.symm, hc ▸ hm⟩, hc]
      · rw [if_neg hc, if_neg fun h => hc (Option.some.inj h.1).symm]
        rfl
    · rw [if_neg hm]
      refine (hsame fun c => if_neg ?_).symm
      rintro ⟨h, hmem⟩
      rw [← Option.some.inj h] at hmem
      exact hm hmem

/-- The record of a station that a HELLO resynchronises (R52). -/
def Station.resynchronised (x : Station) (epoch : BitVec 16) (start : Byte) : Station :=
  { x with
    session := some { epoch := (x.session.map (fun e => e.epoch)).getD epoch, last := start }
    cache := none
    pending := none }

theorem resynchronise_eq {sl : SlotNum} {y : Station} {s : State} (hr : (s.slot sl).record = some y) (x : Station)
    (epoch : BitVec 16) (start : Byte) :
    resynchronise sl x epoch start s =
      (s.withOrphaned x.pending).withRecord sl (some (y.resynchronised epoch start)) := by
  rw [resynchronise, orphanPending_eq]
  exact State.modifyRecord_eq_withRecord (r := y) _ hr

theorem exec_servedHello {src : StationNum} {s : State} {sl : SlotNum} {x : Station} (hreceive : s.CanReceive src)
    (hslot : s.findSlot src = some sl) (hrecord : (s.slot sl).record = some x) (hbarred : x.barred = false)
    (hhold : s.hold = .running) (seq : Byte) (epoch : BitVec 16) (start : Byte) :
    exec (.hello src seq epoch start) s = .next (handleHello sl x src seq epoch start s.received) := by
  rw [exec_helloRow hreceive, takeHello_known (s := s.received) hslot hrecord, if_neg (by simp [hbarred]),
    if_neg (not_not_intro (by exact hhold))]

/-- Settles O39: the recorded epoch makes it no restart. -/
theorem helloResynchronises : Obligations.HelloResynchronises := by
  intro src seq epoch start s sl x e ⟨hreceive, hslot, hrecord, hbarred, hsession, hhold⟩ hepoch
  have hrestart : isRestart x epoch = false := by
    simp only [isRestart, hsession, hepoch, bne_self_eq_false]
  rw [exec_servedHello hreceive hslot hrecord hbarred hhold]
  refine congrArg _ ?_
  simp only [handleHello, hrestart, Bool.false_eq_true, if_false]
  rw [resynchronise_eq (s := s.received) hrecord, answerHello_withReply (by exact hreceive.2.1),
    Station.resynchronised, hsession, Option.map_some, Option.getD_some, hepoch]
  rfl

/-! ### Restart (R53) -/

theorem withRecord_slot (s : State) (sl : SlotNum) (r : Option Station) (k : SlotNum) :
    (s.withRecord sl r).slot k = if k = sl then { s.slot k with record := r } else s.slot k := by
  simp [State.withRecord, State.slot]

theorem withRecord_grant (s : State) (sl : SlotNum) (r : Option Station) (g : GrantNum) :
    (s.withRecord sl r).grant g = s.grant g := by
  simp only [State.withRecord, State.grant]

/-- Which slot a station has is a matter of the numbers in the records. -/
theorem withRecord_findSlot {s : State} {sl : SlotNum} {y z : Station} (h : y.number = z.number) (n : StationNum) :
    (s.withRecord sl (some y)).findSlot n = (s.withRecord sl (some z)).findSlot n := by
  refine findSlot_congr (fun k => ?_) n
  rw [withRecord_slot, withRecord_slot, Slot.number?, Slot.number?]
  split
  · exact congrArg some h
  · rfl

/-- A change of the record commutes with the closing acts and the ending of notices (R53). -/
theorem modifyRecord_restart {s : State} {sl : SlotNum} {y : Station} {f : Station → Station}
    (hf : (f y).number = y.number) (cause : Cause) (gs os : List GrantNum) (n : Notice) :
    (((s.withRecord sl (some y)).withClosed cause gs).withNoticesEnded sl os n []).modifyRecord sl f =
      ((s.withRecord sl (some (f y))).withClosed cause gs).withNoticesEnded sl os n [] := by
  refine State.eq_of_grants_slots (fun g => ?_) (fun k => ?_) ?_
  · rw [State.grant_modifyRecord_other, withNoticesEnded_grant, withNoticesEnded_grant, withClosed_grant,
      withClosed_grant, withRecord_grant, withRecord_grant]
  · have hholder : ∀ g, (s.withRecord sl (some (f y))).holderSlot g = (s.withRecord sl (some y)).holderSlot g :=
      fun g => by simp only [State.holderSlot, withRecord_grant, withRecord_findSlot hf]
    by_cases hk : k = sl
    · subst hk
      simp [withRecord_slot]
    · simp [State.slot_modifyRecord, withRecord_slot, withRecord_grant, hholder, hk, Ne.symm hk]
  · simp only [State.modifyRecord, State.setSlot, State.withNoticesEnded, State.withClosed, State.withRecord]

/-- One event has room exactly if it may be placed at once (R167). -/
theorem State.room_one_iff {s : State} : s.room 1 = 1 ↔ s.slotFree = true := by
  rw [State.slotFree_iff, State.room]
  by_cases hb : s.backlog = []
  · rw [if_pos hb]
    exact ⟨fun h => ⟨hb, by omega⟩, fun h => by omega⟩
  · simp [hb]

theorem State.room_one_eq_zero {s : State} (h : s.room 1 ≠ 1) : s.room 1 = 0 := by
  unfold State.room at h ⊢
  by_cases hb : s.backlog = []
  · rw [if_pos hb] at h ⊢
    omega
  · exact if_neg hb

/-- The hand-over of STATION_RESTARTED as described (R55, R167). -/
theorem handRestarted_eq (sl : SlotNum) (x : Station) (epoch : BitVec 16) (swept : Nat) (s : State) :
    handRestarted sl x epoch swept s = s.withRestarted sl x epoch swept := by
  unfold handRestarted State.withRestarted
  cases x.restartWaiting with
  | some w => exact State.modifyRecord_eq_ofFn ..
  | none =>
    simp only [State.room_one_iff]
    split
    · rfl
    · rw [State.modifyRecord_eq_ofFn]
      rfl

theorem liveOf_congr {s t : State} (h : ∀ g, t.grant g = s.grant g) (holder : Holder) :
    t.liveOf holder = s.liveOf holder := by
  simp only [State.liveOf, h]

theorem openNotices_congr {s t : State} (h : ∀ g, t.grant g = s.grant g) (n : StationNum) :
    t.openNotices n = s.openNotices n := by
  simp only [State.openNotices, h]

/-- Offers and transmission agree with the slots as long as frames, offers and transmitter stay. -/
theorem OffersSound.of_frames {s t : State} (h : s.OffersSound) (hoffers : t.offers = s.offers) (htx : t.tx = s.tx)
    (hframe : ∀ k, (t.slot k).frame = (s.slot k).frame) : t.OffersSound := by
  simpa only [State.OffersSound, hoffers, htx, hframe] using h

/-- A station's restart as described (R53). -/
theorem restartStation_eq {s : State} {sl : SlotNum} {y : Station} (x : Station) (epoch : BitVec 16)
    (hs : s.OffersSound) :
    let live := s.liveOf (.station x.number)
    let abandoned := s.openNotices x.number
    let u := (((s.withRecord sl
      (some { y with session := y.session.map (fun e => { e with epoch := epoch }) })).withClosed .restarted
        live).withNoticesEnded sl abandoned .abandoned []).withRestarted sl x epoch live.length
    restartStation sl x epoch (s.withRecord sl (some y)) =
      u.withReady (u.readyAmong
        ((List.finRange 512).filter (fun g => live.contains g || abandoned.contains g))) := by
  intro live abandoned u
  have hlive : (s.withRecord sl (some y)).liveOf (.station x.number) = live :=
    liveOf_congr (withRecord_grant s sl _) _
  have hopen : (s.withRecord sl (some y)).openNotices x.number = abandoned :=
    openNotices_congr (withRecord_grant s sl _) _
  have hnodup : live.Nodup := (List.nodup_finRange 512).filter _
  have hsound : ((s.withRecord sl (some y)).withClosed .restarted live).OffersSound := by
    refine OffersSound.of_frames hs (by simp only [State.withClosed, State.withRecord])
      (by simp only [State.withClosed, State.withRecord]) fun k => ?_
    rw [withClosed_slot, withRecord_slot]
    split <;> rfl
  have hu : handRestarted sl x epoch live.length
      ((((s.withRecord sl (some y)).withClosed .restarted live).withNoticesEnded sl abandoned .abandoned
        []).modifyRecord
        sl (fun y => { y with session := y.session.map (fun e => { e with epoch := epoch }) })) = u := by
    rw [modifyRecord_restart (by rfl), handRestarted_eq]
  unfold restartStation
  simp only [hlive, hopen]
  rw [closeAll_eq .restarted hnodup, abandonQueue_eq hsound, hu,
    testReadyAll_eq ((List.nodup_finRange 512).filter _)]

theorem withRestarted_keeps (s : State) (sl : SlotNum) (x : Station) (epoch : BitVec 16) (swept : Nat) :
    (s.withRestarted sl x epoch swept).link = s.link ∧ (s.withRestarted sl x epoch swept).self = s.self := by
  obtain ⟨_, _, _, _, h⟩ := handRestarted_only sl x epoch swept s
  rw [← handRestarted_eq, h]
  exact ⟨rfl, rfl⟩

theorem withRecord_link (s : State) (sl : SlotNum) (r : Option Station) : (s.withRecord sl r).link = s.link := by
  simp only [State.withRecord]

theorem withRecord_self (s : State) (sl : SlotNum) (r : Option Station) : (s.withRecord sl r).self = s.self := by
  simp only [State.withRecord]

theorem withNoticesEnded_self (s : State) (sl : SlotNum) (gs : List GrantNum) (outcome : Notice)
    (rest : List GrantNum) : (s.withNoticesEnded sl gs outcome rest).self = s.self := by
  simp only [State.withNoticesEnded]

/-- A HELLO's answer in a state with the part's own number and an UP link (R83). -/
theorem answerHello_of_self {s u : State} (hl : u.link = .up) (hself : u.self = s.self) (src : StationNum) (seq : Byte)
    (status : ReplyStatus) (value : Word) :
    answerHello src seq status value u = u.withReply (bareReply s src 1 seq status value) := by
  rw [answerHello_withReply hl]
  simp only [bareReply, hself]

/-- Settles O40: resynchronisation, restart, and the answer that counts the grants closed. -/
theorem helloRestarts : Obligations.HelloRestarts := by
  intro src seq epoch start s sl x hreceive hslot hrecord hbarred hhold hepoch hoffers live abandoned
  have horphaned : ({ s.received with
        ctxs := Vector.ofFn (fun c : CtxNum =>
          if x.pending = some c ∧ (s.ctx c).inMemoryPhase = true then { s.ctx c with orphaned := true }
          else s.ctx c) } : State) = s.received.withOrphaned x.pending := rfl
  rw [horphaned]
  intro u
  have hrestart : isRestart x epoch = true := by
    unfold isRestart
    cases hx : x.session with
    | none => rfl
    | some e => exact bne_iff_ne.2 (hepoch e hx)
  have hnumber : x.number = src := by
    obtain ⟨r, hr, hn⟩ := State.findSlot_some hslot
    rw [hrecord] at hr
    exact Option.some.inj hr ▸ hn
  subst hnumber
  have hsound : (s.received.withOrphaned x.pending).OffersSound := hoffers
  have hsynced : ({ (x.resynchronised epoch start) with
      session := (x.resynchronised epoch start).session.map (fun e => { e with epoch := epoch }) } : Station) =
        { x with session := some { epoch := epoch, last := start }, cache := none, pending := none } := rfl
  have hgrant : ∀ g, (s.received.withOrphaned x.pending).grant g = s.grant g := fun _ => rfl
  have hlive : s.received.liveOf (.station x.number) = live := by
    exact liveOf_congr (fun _ => rfl) _
  have hstate := restartStation_eq (y := x.resynchronised epoch start) (sl := sl) x epoch hsound
  rw [hsynced, liveOf_congr hgrant, openNotices_congr hgrant] at hstate
  rw [exec_servedHello hreceive hslot hrecord hbarred hhold]
  refine congrArg _ ?_
  simp only [handleHello, hrestart, if_true]
  rw [resynchronise_eq (s := s.received) hrecord, hstate, hlive]
  refine (answerHello_of_self (s := s) ?_ ?_ x.number seq .ok _).trans ?_
  · rw [(withReady_keeps _ _).1, (withRestarted_keeps _ _ _ _ _).1, withNoticesEnded_link, withClosed_link,
      withRecord_link]
    exact hreceive.2.1
  · rw [withReady_self, (withRestarted_keeps _ _ _ _ _).2, withNoticesEnded_self, withClosed_self, withRecord_self]
    rfl
  · rfl

/-! ### Admission (R50) -/

theorem withRecord_withRecord (s : State) (sl : SlotNum) (a b : Option Station) :
    (s.withRecord sl a).withRecord sl b = s.withRecord sl b := by
  refine State.eq_of_slots (fun k => ?_) (by simp only [State.withRecord])
  rw [withRecord_slot, withRecord_slot, withRecord_slot]
  split <;> rfl

theorem withOrphaned_none (s : State) : s.withOrphaned none = s := by
  rw [← orphanPending_eq]
  rfl

/-- A slot with no notices has no queue to abandon (R120). -/
theorem abandonQueue_of_empty {sl : SlotNum} {s : State} (hq : (s.slot sl).queue = [])
    (hf : (s.slot sl).frame = .none) : abandonQueue sl s = s := by
  have hwithdraw : withdrawFrame sl s = s := by simp only [withdrawFrame, hf]
  refine State.eq_of_slots (fun k => ?_) ?_
  · rw [abandonQueue_slot]
    split
    · next h =>
      subst h
      rw [← hq, ← hf]
    · rfl
  · unfold abandonQueue
    rw [hwithdraw]
    rfl

theorem liveOf_eq_nil {s : State} {h : Holder} (hholds : ∀ g, (s.grant g).body.holder? ≠ some h) : s.liveOf h = [] :=
  List.filter_eq_nil_iff.2 fun g _ hg => hholds g (beq_iff_eq.1 (Bool.and_eq_true_iff.1 hg).2)

/-- A station that holds nothing restarts (R53): its record takes the epoch, and STATION_RESTARTED is handed over. -/
theorem restartStation_of_holds_nothing {s : State} {sl : SlotNum} {x y : Station} (epoch : BitVec 16)
    (hholds : ∀ g, (s.grant g).body.holder? ≠ some (.station x.number)) (hq : (s.slot sl).queue = [])
    (hf : (s.slot sl).frame = .none) :
    restartStation sl x epoch (s.withRecord sl (some y)) =
      (s.withRecord sl (some { y with session := y.session.map (fun e => { e with epoch := epoch }) })).withRestarted
        sl x epoch 0 := by
  have hlive : (s.withRecord sl (some y)).liveOf (.station x.number) = [] := by
    rw [liveOf_congr (withRecord_grant s sl _), liveOf_eq_nil hholds]
  have hopen : (s.withRecord sl (some y)).openNotices x.number = [] := by
    rw [openNotices_congr (withRecord_grant s sl _)]
    refine List.eq_nil_iff_forall_not_mem.2 fun g hg => ?_
    obtain ⟨t, c, hb, hh, -⟩ := (mem_openNotices s x.number g).1 hg
    exact hholds g (by rw [hb]; exact congrArg some hh)
  have hslot : (s.withRecord sl (some y)).slot sl = { s.slot sl with record := some y } := by
    rw [withRecord_slot, if_pos rfl]
  have habandon : abandonQueue sl (s.withRecord sl (some y)) = s.withRecord sl (some y) :=
    abandonQueue_of_empty (by rw [hslot]; exact hq) (by rw [hslot]; exact hf)
  have hsession : (s.withRecord sl (some y)).modifyRecord sl
      (fun y => { y with session := y.session.map (fun e => { e with epoch := epoch }) }) =
        s.withRecord sl (some { y with session := y.session.map (fun e => { e with epoch := epoch }) }) := by
    rw [State.modifyRecord_eq_withRecord (r := y) _ (by rw [hslot]), withRecord_withRecord]
  have hnone : (List.finRange 512).filter
      (fun g => ([] : List GrantNum).contains g || ([] : List GrantNum).contains g) = [] :=
    List.filter_eq_nil_iff.2 fun g _ => by simp
  unfold restartStation
  have hclosed : closeAll .restarted [] (s.withRecord sl (some y)) = s.withRecord sl (some y) := rfl
  simp only [hlive, hopen, hnone, hclosed, habandon, List.foldl_nil, hsession, handRestarted_eq, testReadyAll_nil,
    List.length_nil]

/-- The hand-over of a restart to a record on which none waits (R55, R167). -/
theorem withRestarted_withRecord {s : State} {sl : SlotNum} {x : Station} (hx : x.restartWaiting = none) (y : Station)
    (epoch : BitVec 16) :
    (s.withRecord sl (some y)).withRestarted sl x epoch 0 =
      if s.room 1 = 1 then
        ({ s with cq := s.cq ++ [.restarted x.number epoch 0 1] } : State).withRecord sl (some y)
      else
        ({ s with backlog := s.backlog ++ [.restarted sl], alerts := { s.alerts with backlog := true } } :
          State).withRecord sl (some { y with restartWaiting := some { epoch := epoch, swept := 0, merged := 1 }
            }) := by
  rw [← handRestarted_eq]
  have hroom : s.room 1 = 1 ↔ (s.withRecord sl (some y)).slotFree = true := by
    rw [← State.room_one_iff]
    rfl
  unfold handRestarted
  simp only [hx, ← hroom]
  split
  · rfl
  · rw [State.modifyRecord_eq_withRecord (r := y) _ (by rw [withRecord_slot, if_pos rfl]), withRecord_withRecord]
    rfl

/-- The hand-over of an admission to a new record (R50, R167). -/
theorem handAdmitted_withRecord (s : State) (sl : SlotNum) (n : StationNum) (y : Station) :
    handAdmitted sl n (s.withRecord sl (some y)) =
      if s.room 1 = 1 then ({ s with cq := s.cq ++ [.admitted n sl] } : State).withRecord sl (some y)
      else
        ({ s with backlog := s.backlog ++ [.admitted sl], alerts := { s.alerts with backlog := true } } :
          State).withRecord sl (some { y with admittedWaiting := true }) := by
  have hroom : s.room 1 = 1 ↔ (s.withRecord sl (some y)).slotFree = true := by
    rw [← State.room_one_iff]
    rfl
  unfold handAdmitted
  simp only [← hroom]
  split
  · rfl
  · rw [State.modifyRecord_eq_withRecord (r := y) _ (by rw [withRecord_slot, if_pos rfl]), withRecord_withRecord]
    rfl

/-- Behind the admission of a station that holds nothing: its HELLO's resynchronisation and restart (R52, R53). -/
theorem handleHello_admitted {t : State} {sl : SlotNum} {src : StationNum} {quota : Nat} {y : Station}
    (hl : t.link = .up) (hholds : ∀ g, (t.grant g).body.holder? ≠ some (.station src))
    (hq : (t.slot sl).queue = []) (hf : (t.slot sl).frame = .none) (hy : y.session = none) (seq : Byte)
    (epoch : BitVec 16) (start : Byte) :
    handleHello sl (newStation false src quota) src seq epoch start (t.withRecord sl (some y)) =
      ((t.withRecord sl (some { y with
        session := some { epoch := epoch, last := start }, cache := none, pending := none })).withRestarted sl
          (newStation false src quota) epoch 0).withReply (bareReply t src 1 seq .ok 0) := by
  have hlive : (t.withRecord sl (some y)).liveOf (.station (newStation false src quota).number) = [] :=
    (liveOf_congr (withRecord_grant t sl _) _).trans (liveOf_eq_nil hholds)
  have hsynced : y.resynchronised epoch start =
      { y with session := some { epoch := epoch, last := start }, cache := none, pending := none } := by
    rw [Station.resynchronised, hy]
    rfl
  have hresync : resynchronise sl (newStation false src quota) epoch start (t.withRecord sl (some y)) =
      t.withRecord sl (some (y.resynchronised epoch start)) := by
    rw [resynchronise_eq (y := y) (by rw [withRecord_slot, if_pos rfl])]
    exact (congrArg (fun u => State.withRecord u sl _) (withOrphaned_none _)).trans (withRecord_withRecord ..)
  have hrestart : isRestart (newStation false src quota) epoch = true := rfl
  simp only [handleHello, hrestart, if_true, hlive, List.length_nil]
  rw [hresync, restartStation_of_holds_nothing epoch hholds hq hf, hsynced]
  exact answerHello_of_self ((withRestarted_keeps _ _ _ _ _).1.trans ((withRecord_link ..).trans hl))
    ((withRestarted_keeps _ _ _ _ _).2.trans (withRecord_self ..)) src seq .ok 0

/-- Room for two events, by whether there is room for one, and behind it for another (R167). -/
theorem State.room_two (s : State) (c : Completion) :
    s.room 2 = if s.room 1 = 1 then ({ s with cq := s.cq ++ [c] } : State).room 1 + 1 else 0 := by
  simp only [State.room, List.length_append, List.length_singleton]
  by_cases hb : s.backlog = []
  · simp only [if_pos hb]
    split <;> omega
  · simp [hb]

theorem takeHello_admits {src : StationNum} {s : State} {sl : SlotNum} (h : s.findSlot src = none)
    (hp : s.policy = .opened ∧ s.hold = .running) (hv : s.vacantSlot = some sl) (seq : Byte) (epoch : BitVec 16)
    (start : Byte) :
    takeHello src seq epoch start s =
      handleHello sl (newStation false src s.defaultQuota) src seq epoch start
        (handAdmitted sl src (s.withRecord sl (some (newStation false src s.defaultQuota)))) := by
  rw [← State.setSlot_record_eq_withRecord]
  simp only [takeHello, h, if_pos hp, hv]
  rfl

/-- Settles O41: the admission, and the restart of a station that holds nothing. -/
theorem helloAdmits : Obligations.HelloAdmits := by
  intro src seq epoch start s sl hreceive hslot hopen hhold hholds hempty hlow events n
  have hvacant : s.received.vacantSlot = some sl :=
    State.vacantSlot_of_lowest (s := s.received) (congrArg Slot.record hempty) hlow
  have hqueue : (s.slot sl).queue = [] := congrArg Slot.queue hempty
  have hframe : (s.slot sl).frame = .none := congrArg Slot.frame hempty
  have hn : n = if s.received.room 1 = 1 then
      ({ s.received with cq := s.received.cq ++ [.admitted src sl] } : State).room 1 + 1 else 0 :=
    s.received.room_two (.admitted src sl)
  rw [exec_helloRow hreceive, takeHello_admits (s := s.received) hslot ⟨hopen, hhold⟩ hvacant,
    handAdmitted_withRecord]
  refine congrArg _ ?_
  by_cases hroom : s.received.room 1 = 1
  · rw [if_pos hroom] at hn ⊢
    rw [handleHello_admitted (by exact hreceive.2.1) (by exact hholds) (by exact hqueue) (by exact hframe) rfl,
      withRestarted_withRecord rfl]
    by_cases hmore : ({ s.received with cq := s.received.cq ++ [.admitted src sl] } : State).room 1 = 1
    · rw [if_pos hmore]
      rw [hmore] at hn
      clear_value n
      subst hn
      simp only [events, List.take, List.drop, List.map_cons, List.map_nil, List.append_nil, List.append_assoc,
        List.cons_append, List.nil_append, Nat.reduceAdd, Nat.lt_irrefl, decide_false, Bool.or_false, Nat.reduceLT]
      rfl
    · rw [if_neg hmore]
      rw [State.room_one_eq_zero hmore] at hn
      clear_value n
      subst hn
      simp only [events, List.take, List.drop, List.map_cons, List.map_nil, Nat.reduceAdd, Nat.lt_irrefl, decide_false,
        decide_true, Bool.or_true, Nat.reduceLT, if_true]
      rfl
  · rw [if_neg hroom] at hn ⊢
    rw [handleHello_admitted (by exact hreceive.2.1) (by exact hholds) (by exact hqueue) (by exact hframe) rfl,
      withRestarted_withRecord rfl]
    have hbacklog : ¬ ({ s.received with
        backlog := s.received.backlog ++ [.admitted sl]
        alerts := { s.received.alerts with backlog := true } } : State).room 1 = 1 := by
      simp [State.room]
    rw [if_neg hbacklog]
    clear_value n
    subst hn
    simp only [events, List.take, List.drop, List.map_cons, List.map_nil, List.append_nil, List.append_assoc,
      List.cons_append, List.nil_append, decide_true, Bool.or_true, Nat.reduceLT, if_true]
    rfl

end Sys2Proof.Machine
end


section
/-! PROOFS. The bytes of request frames (R131, R132, R186): a frame sealed with its CRC passes the filter and spells the
arrival it was laid out from. -/

namespace Sys2Proof.Machine

/-! ### Numbers as bytes -/

theorem length_bytesLE (n : Nat) {m : Nat} (x : BitVec m) : (bytesLE n x).length = n := by
  simp [bytesLE]

/-- The bit of a number that bytes spell (R186). -/
theorem getLsbD_ofBytesLE (m : Nat) (bs : List Byte) (i : Nat) :
    (ofBytesLE m bs).getLsbD i = (decide (i < m) && (bs.getD (i / 8) 0).getLsbD (i % 8)) := by
  induction bs generalizing i with
  | nil => simp [ofBytesLE]
  | cons b bs ih =>
    rw [ofBytesLE, BitVec.getLsbD_or, BitVec.getLsbD_shiftLeft, ih, BitVec.getLsbD_setWidth]
    by_cases hi : i < 8
    · have hdiv : i / 8 = 0 := by omega
      have hmod : i % 8 = i := by omega
      simp [hi, hdiv, hmod]
    · have hdiv : i / 8 = (i - 8) / 8 + 1 := by omega
      have hmod : i % 8 = (i - 8) % 8 := by omega
      have hhigh : b.getLsbD i = false := BitVec.getLsbD_of_ge b i (by omega)
      by_cases hm : i < m
      · have hm' : i - 8 < m := by omega
        simp [hi, hm, hm', hhigh, hdiv, hmod]
      · simp [hi, hm]

/-- Bytes taken from a number spell it (R186). -/
theorem ofBytesLE_bytesLE {n m : Nat} (h : m = 8 * n) (x : BitVec m) : ofBytesLE m (bytesLE n x) = x := by
  refine BitVec.eq_of_getLsbD_eq fun i hi => ?_
  have hbyte : i / 8 < n := by omega
  rw [getLsbD_ofBytesLE, bytesLE, List.getD_eq_getElem?_getD, List.getElem?_map, List.getElem?_range hbyte,
    Option.map_some, Option.getD_some, BitVec.getLsbD_extractLsb']
  have hsplit : 8 * (i / 8) + i % 8 = i := by omega
  simp [hi, hsplit, Nat.mod_lt]

theorem length_lineBytes (l : Line) : (lineBytes l).length = 64 := length_bytesLE 64 l

theorem length_flatMap_lineBytes (payload : List Line) : (payload.flatMap lineBytes).length = 64 * payload.length := by
  induction payload with
  | nil => rfl
  | cons l payload ih =>
    rw [List.flatMap_cons, List.length_append, length_lineBytes, ih, List.length_cons]
    omega

/-- The lines of a payload are read back from its bytes (log 13). -/
theorem linesOf_flatMap (payload : List Line) (rest : List Byte) :
    linesOf payload.length (payload.flatMap lineBytes ++ rest) = payload := by
  induction payload with
  | nil => rfl
  | cons l payload ih =>
    have htake : (lineBytes l ++ (payload.flatMap lineBytes ++ rest)).take 64 = lineBytes l :=
      List.take_left' (length_lineBytes l)
    have hdrop : (lineBytes l ++ (payload.flatMap lineBytes ++ rest)).drop 64 = payload.flatMap lineBytes ++ rest :=
      List.drop_left' (length_lineBytes l)
    rw [List.length_cons, linesOf, List.flatMap_cons, List.append_assoc, htake, hdrop, ih]
    congr 1
    exact ofBytesLE_bytesLE (n := 64) (m := 512) rfl l

theorem extractLsb'_stationByte (n : StationNum) : (stationByte n).extractLsb' 0 6 = n := by
  refine BitVec.eq_of_getLsbD_eq fun i hi => ?_
  have hi8 : i < 8 := by omega
  simp [stationByte, hi, hi8]

/-! ### Sealed frames -/

/-- The trailer of a sealed frame is its last four bytes (R131). -/
theorem sealFrame_split (header : List Byte) (payload : List Line) :
    let body := header ++ payload.flatMap lineBytes
    (sealFrame header payload).length = header.length + 64 * payload.length + 4 ∧
      (sealFrame header payload).take ((sealFrame header payload).length - 4) = body ∧
      (sealFrame header payload).drop ((sealFrame header payload).length - 4) = bytesLE 4 (crc32 body) := by
  intro body
  have hbody : body.length = header.length + 64 * payload.length := by
    rw [List.length_append, length_flatMap_lineBytes]
  have hseal : sealFrame header payload = body ++ bytesLE 4 (crc32 body) := rfl
  have hlength : (sealFrame header payload).length - 4 = body.length := by
    rw [hseal, List.length_append, length_bytesLE]
    omega
  refine ⟨?_, ?_, ?_⟩
  · rw [hseal, List.length_append, length_bytesLE, hbody]
  · rw [hlength, hseal, List.take_left]
  · rw [hlength, hseal, List.drop_left]

/-- A sealed frame of 16 header bytes that names the part, an acceptable source and its payload's length passes the
filter (R132). -/
theorem filterAccepts_sealFrame {self src : StationNum} {header : List Byte} {payload : List Line}
    (hlen : header.length = 16) (hdest : header.getD 1 0 = stationByte self) (hsrc : header.getD 2 0 = stationByte src)
    (hcount : header.getD 4 0 = BitVec.ofNat 8 payload.length) (hmost : payload.length ≤ 16)
    (hself : stationInRange self = true) (hfrom : sourceAccepted self src = true) :
    filterAccepts self (sealFrame header payload) = true := by
  obtain ⟨hlength, htake, hdrop⟩ := sealFrame_split header payload
  have hbyte : ∀ i < 16, (sealFrame header payload).getD i 0 = header.getD i 0 := fun i hi => by
    rw [sealFrame, List.append_assoc, List.getD_append _ _ _ _ (by omega)]
  have htoNat : (BitVec.ofNat 8 payload.length).toNat = payload.length := by
    rw [BitVec.toNat_ofNat]
    omega
  have hlines : ((sealFrame header payload).length - 20) / 64 = payload.length := by omega
  have hlong : 20 ≤ (sealFrame header payload).length := by omega
  have hwhole : ((sealFrame header payload).length - 20) % 64 = 0 := by omega
  have hcap : payload.length ≤ Config.maxCount := hmost
  unfold filterAccepts
  simp only [htake, hdrop, hbyte 1 (by omega), hbyte 2 (by omega), hbyte 4 (by omega), hdest, hsrc, hcount,
    extractLsb'_stationByte, hself, hfrom, htoNat, hlines, hlong, hwhole, hcap, decide_true, BEq.rfl, Bool.and_true]

/-! ### The frames of the arrivals -/

/-- An arrival that a sender can lay out as a frame: a payload of at most 16 lines and only in a WRITE, an offset and a
count only in a READ or WRITE, and no kind code of a request in a frame of unknown kind (R66, R186). -/
def Arrival.Sendable : Arrival → Prop
  | .hello .. | .noticeAck .. => True
  | .unknown _ _ kind => requestKindCode kind = false
  | .request r =>
    r.payload.length ≤ 16 ∧ (r.kind ≠ .write → r.payload = []) ∧
      (r.kind ≠ .read → r.kind ≠ .write → r.offset = 0 ∧ r.count = 0)

/-- Well-formed rows are sendable frames. -/
theorem sendable_of_row {c : Instr} {a : Arrival} (hwf : WellFormed c = true) (hrow : arrivalOfRow c = some a) :
    a.Sendable := by
  cases c <;> cases hrow
  case unknownKindFrame src seq kind =>
    simp only [WellFormed, Bool.and_eq_true, Bool.not_eq_true'] at hwf
    exact hwf.2
  case hello | noticeAck => trivial
  case write src seq grant gen offset count payload =>
    simp only [WellFormed, Bool.and_eq_true, decide_eq_true_eq] at hwf
    exact ⟨hwf.2, fun h => absurd rfl h, fun _ h => absurd rfl h⟩
  case read => exact ⟨Nat.zero_le 16, fun _ => rfl, fun h => absurd rfl h⟩
  case renew | returnGrant | probe => exact ⟨Nat.zero_le 16, fun _ => rfl, fun _ _ => ⟨rfl, rfl⟩⟩

/-- A row that is an arrival does what the arrival does (R131). -/
theorem exec_arrivalRow {c : Instr} {a : Arrival} (hrow : arrivalOfRow c = some a) (s : State) :
    exec c s = event (arrive a) s := by
  cases c <;> cases hrow <;> rfl

theorem ofBytesLE_two (x : BitVec 16) : ofBytesLE 16 [x.extractLsb' 0 8, x.extractLsb' 8 8] = x :=
  ofBytesLE_bytesLE (n := 2) (m := 16) rfl x

/-- Every sendable arrival's frame passes the filter (R132). -/
theorem filterAccepts_bytes {self : StationNum} {a : Arrival} (ha : a.Sendable) (hself : stationInRange self = true)
    (hfrom : sourceAccepted self a.src = true) : filterAccepts self (a.bytes self) = true := by
  cases a with
  | request r => exact filterAccepts_sealFrame rfl rfl rfl rfl ha.1 hself hfrom
  | hello | noticeAck | unknown =>
    exact filterAccepts_sealFrame (payload := []) rfl rfl rfl rfl (Nat.zero_le 16) hself hfrom

/-- The request that a sendable request's frame spells (Table 11-6). -/
theorem requestOf_bytes {self : StationNum} {r : Request} (hr : (Arrival.request r).Sendable) :
    requestOf r.kind ((Arrival.request r).bytes self) = r := by
  obtain ⟨hmost, hpayload, hplain⟩ := hr
  have htoNat : (BitVec.ofNat 8 r.payload.length).toNat = r.payload.length := by
    rw [BitVec.toNat_ofNat]
    omega
  have hbytes : ∃ rest, (Arrival.request r).bytes self =
      r.kind.code :: stationByte self :: stationByte r.src :: r.seq :: BitVec.ofNat 8 r.payload.length :: 0 ::
        r.grant.extractLsb' 0 8 :: r.grant.extractLsb' 8 8 :: r.gen :: 0 :: 0 :: r.count ::
          r.offset.extractLsb' 0 8 :: r.offset.extractLsb' 8 8 :: 0 :: 0 ::
            (r.payload.flatMap lineBytes ++ rest) := ⟨_, rfl⟩
  obtain ⟨rest, hbytes⟩ := hbytes
  have hlines := linesOf_flatMap r.payload rest
  obtain ⟨kind, src, seq, grant, gen, offset, count, payload⟩ := r
  simp only [] at hmost hpayload hplain htoNat hbytes hlines
  rw [hbytes]
  simp only [requestOf, List.getD_cons_zero, List.getD_cons_succ, List.drop_succ_cons, List.drop_zero,
    List.take_succ_cons, List.take_zero, ofBytesLE_two, extractLsb'_stationByte, htoNat, hlines]
  cases kind with
  | write => rfl
  | read => simp [hpayload]
  | renew | returnGrant | probe => simp [hpayload, hplain]

/-- The arrival that a sendable arrival's frame spells (R131, Table 11-6). -/
theorem arrivalOf_bytes {self : StationNum} {a : Arrival} (ha : a.Sendable) : arrivalOf (a.bytes self) = a := by
  cases a with
  | request r =>
    have hrequest := requestOf_bytes (self := self) ha
    have hcode : ((Arrival.request r).bytes self).getD 0 0 = r.kind.code := rfl
    unfold arrivalOf
    rw [hcode]
    cases hk : r.kind <;> rw [hk] at hrequest <;> exact congrArg Arrival.request hrequest
  | hello src seq epoch start =>
    have hbytes : ∃ rest, (Arrival.hello src seq epoch start).bytes self =
        1#8 :: stationByte self :: stationByte src :: seq :: 0 :: 0 :: epoch.extractLsb' 0 8 ::
          epoch.extractLsb' 8 8 :: start :: rest := ⟨_, rfl⟩
    obtain ⟨rest, hbytes⟩ := hbytes
    rw [hbytes]
    exact congrArg₂ (fun src epoch => Arrival.hello src seq epoch start) (extractLsb'_stationByte src)
      (ofBytesLE_two epoch)
  | noticeAck src seq grant gen =>
    have hbytes : ∃ rest, (Arrival.noticeAck src seq grant gen).bytes self =
        7#8 :: stationByte self :: stationByte src :: seq :: 0 :: 0 :: grant.extractLsb' 0 8 ::
          grant.extractLsb' 8 8 :: gen :: rest := ⟨_, rfl⟩
    obtain ⟨rest, hbytes⟩ := hbytes
    rw [hbytes]
    exact congrArg₂ (fun src grant => Arrival.noticeAck src seq grant gen) (extractLsb'_stationByte src)
      (ofBytesLE_two grant)
  | unknown src seq kind =>
    have hbytes : ∃ rest, (Arrival.unknown src seq kind).bytes self =
        kind :: stationByte self :: stationByte src :: seq :: rest := ⟨_, rfl⟩
    obtain ⟨rest, hbytes⟩ := hbytes
    have hkind : kind.toNat < 1 ∨ 7 < kind.toNat := by
      have hcode : requestKindCode kind = false := ha
      simp only [requestKindCode, Bool.and_eq_false_iff, decide_eq_false_iff_not] at hcode
      omega
    rw [hbytes]
    unfold arrivalOf
    simp only [List.getD_cons_zero, List.getD_cons_succ, extractLsb'_stationByte]
    split
    case h_8 => rfl
    all_goals next h => exact absurd h (by omega)

/-- Settles O33: the frame of every sendable arrival passes the filter and spells the arrival. -/
theorem frameBytesRoundTrip : Obligations.FrameBytesRoundTrip := by
  intro c a s hwf hrow hreceive hself
  have ha := sendable_of_row hwf hrow
  have hrange : stationInRange s.self = true := hself
  have hbytes : receive s.self (a.bytes s.self) = some a := by
    rw [receive, if_pos (filterAccepts_bytes ha hrange hreceive.2.2), arrivalOf_bytes ha]
  refine ⟨hbytes, takeArrival a s.received, ?_, ?_⟩
  · refine (event_running (f := receiveFrame (a.bytes s.self)) hreceive.1).trans (congrArg _ ?_)
    rw [receiveFrame, if_pos hreceive.2.1]
    have hsent : receive ({ s with receiving := false } : State).self (a.bytes s.self) = some a := hbytes
    simp only [hsent]
    rfl
  · exact (exec_arrivalRow hrow s).trans (arrive_received hreceive)

end Sys2Proof.Machine
end


section
/-! PROOFS. Expiry (R29, R114, R115): lifetimes that have run out, intervals that have expired, and what they offer. -/

namespace Sys2Proof.Machine

/-! ### Lifetimes -/

/-- A tick's countdown as described (R28). -/
theorem countDownAll_eq (s : State) : countDownAll s = s.withCountdown := by
  have hgrants : s.grants.map Grant.countDown = s.withCountdown.grants := by
    ext1 i hi
    rw [Vector.getElem_map, State.withCountdown, Vector.getElem_ofFn]
    rfl
  rw [countDownAll, hgrants]
  simp only [State.withCountdown]

theorem runOut_eq (s : State) : s.runOut = s.expired := by
  refine List.filter_congr fun g _ => ?_
  unfold Grant.hasRunOut
  cases (s.grant g).body with
  | free | closing => rfl
  | live t => rw [Bool.eq_iff_iff, beq_iff_eq, decide_eq_true_eq]

/-- The expiry of the grants whose lifetime has run out, as described (R29). -/
theorem expireAll_eq (s : State) : expireAll s = s.withExpired s.expired := by
  have hnodup : s.expired.Nodup := (List.nodup_finRange 512).filter _
  rw [expireAll, runOut_eq, closeAll_eq .expired hnodup, testReadyAll_eq hnodup, State.withExpired]

/-! ### What the transmitter and the notices' clock look at, beside the queues -/

/-- The link, the transmitter with what it may take, and the notices' settings. -/
def State.clockView (s : State) : LinkState × Tx × List QueuedReply × List SlotNum × Nat × Nat :=
  (s.link, s.tx, s.replyQ, s.offers, s.noticeInterval, s.noticeTries)

/-- Whether the transmitter is eager is a matter of the link, the transmitter and what it may take. -/
theorem eager_of_clockView {s t : State} (h : t.clockView = s.clockView) (hs : s.TransmitterEager) :
    t.TransmitterEager := by
  simp only [State.clockView, Prod.mk.injEq] at h
  obtain ⟨hlink, htx, hreply, hoffers, -⟩ := h
  rwa [State.TransmitterEager, hlink, htx, hreply, hoffers]

theorem clockView_link {s t : State} (h : t.clockView = s.clockView) : t.link = s.link := (Prod.mk.inj h).1

theorem clockView_interval {s t : State} (h : t.clockView = s.clockView) : t.noticeInterval = s.noticeInterval := by
  simp only [State.clockView, Prod.mk.injEq] at h
  exact h.2.2.2.2.1

theorem clockView_tries {s t : State} (h : t.clockView = s.clockView) : t.noticeTries = s.noticeTries := by
  simp only [State.clockView, Prod.mk.injEq] at h
  exact h.2.2.2.2.2

theorem withClosed_clockView (s : State) (cause : Cause) (gs : List GrantNum) :
    (s.withClosed cause gs).clockView = s.clockView := by
  simp only [State.clockView, State.withClosed]

theorem withReady_clockView (s : State) (gs : List GrantNum) : (s.withReady gs).clockView = s.clockView := by
  simp only [State.clockView, State.withReady, State.withRetired, State.withWaiting]

theorem withExpired_clockView (s : State) (gs : List GrantNum) : (s.withExpired gs).clockView = s.clockView := by
  rw [State.withExpired, withReady_clockView, withClosed_clockView]

/-! ### Heads that wait for an acknowledgement -/

/-- The counted head of a slot (R114). -/
theorem State.countedHead_iff {s : State} {sl : SlotNum} {g : GrantNum} {tries ticks : Nat} :
    s.countedHead sl = some (g, tries, ticks) ↔
      (∃ rest, (s.slot sl).queue = g :: rest) ∧ s.headNotice sl = some (.awaitAck tries ticks) ∧ s.link = .up ∧
        (s.slot sl).frame = .none := by
  unfold State.countedHead
  cases hq : (s.slot sl).queue with
  | nil => simp
  | cons h rest =>
    cases hn : s.headNotice sl with
    | none => simp
    | some n =>
      cases n with
      | notDue | queued | acked | unacked | abandoned => simp
      | awaitAck t k =>
        simp only [Option.ite_none_right_eq_some, Option.some.injEq, Prod.mk.injEq, List.cons.injEq,
          Notice.awaitAck.injEq]
        exact ⟨fun ⟨⟨hup, hframe⟩, hg, ht, hk⟩ => ⟨⟨rest, hg, rfl⟩, ⟨ht, hk⟩, hup, hframe⟩,
          fun ⟨⟨_, hg, _⟩, ⟨ht, hk⟩, hup, hframe⟩ => ⟨⟨hup, hframe⟩, hg, ht, hk⟩⟩

/-- An interval that has expired is that of a counted head (R114). -/
theorem State.intervalExpired_iff {s : State} {sl : SlotNum} :
    s.intervalExpired sl = true ↔
      ∃ g tries ticks, s.countedHead sl = some (g, tries, ticks) ∧ s.noticeInterval ≤ ticks := by
  simp only [State.countedHead_iff]
  unfold State.intervalExpired
  cases hn : s.headNotice sl with
  | none => simp
  | some n =>
    cases n with
    | notDue | queued | acked | unacked | abandoned => simp
    | awaitAck tries ticks =>
      have hqueue : ∃ g rest, (s.slot sl).queue = g :: rest := by
        unfold State.headNotice at hn
        cases hq : (s.slot sl).queue with
        | nil => rw [hq] at hn; cases hn
        | cons g rest => exact ⟨g, rest, rfl⟩
      obtain ⟨g, rest, hq⟩ := hqueue
      simp only [Bool.and_eq_true, decide_eq_true_eq]
      constructor
      · rintro ⟨⟨hup, hframe⟩, hticks⟩
        exact ⟨g, tries, ticks, ⟨⟨rest, hq⟩, rfl, hup, hframe⟩, hticks⟩
      · rintro ⟨_, t, k, ⟨-, hawait, hup, hframe⟩, hticks⟩
        cases hawait
        exact ⟨⟨hup, hframe⟩, hticks⟩

/-- Whether tries remain for a counted head (R115). -/
theorem State.triesRemain_eq {s : State} {sl : SlotNum} {g : GrantNum} {tries ticks : Nat}
    (h : s.countedHead sl = some (g, tries, ticks)) : s.triesRemain sl = decide (tries < s.noticeTries) := by
  simp only [State.triesRemain, (State.countedHead_iff.1 h).2.1]
  rfl

theorem State.mem_expiredHeads {s : State} {p : Nat → Bool} {sl : SlotNum} :
    sl ∈ s.expiredHeads p ↔
      ∃ g tries ticks, s.countedHead sl = some (g, tries, ticks) ∧ s.noticeInterval ≤ ticks ∧ p tries = true := by
  simp only [State.expiredHeads, List.mem_filter, List.mem_finRange, true_and]
  cases s.countedHead sl with
  | none => simp
  | some h =>
    obtain ⟨g, tries, ticks⟩ := h
    simp only [Bool.and_eq_true, decide_eq_true_eq, Option.some.injEq, Prod.mk.injEq]
    exact ⟨fun h => ⟨g, tries, ticks, ⟨rfl, rfl, rfl⟩, h⟩, fun ⟨_, _, _, ⟨_, ht, hk⟩, h⟩ => by subst ht hk; exact h⟩

/-- The heads to send again (R115). -/
def State.resends (s : State) : List SlotNum := s.expiredHeads (fun tries => decide (tries < s.noticeTries))

theorem State.mem_resends {s : State} {sl : SlotNum} :
    sl ∈ s.resends ↔ s.intervalExpired sl = true ∧ s.triesRemain sl = true := by
  rw [State.resends, State.mem_expiredHeads, State.intervalExpired_iff]
  constructor
  · rintro ⟨g, tries, ticks, h, hticks, htries⟩
    exact ⟨⟨g, tries, ticks, h, hticks⟩, (State.triesRemain_eq h).trans htries⟩
  · rintro ⟨⟨g, tries, ticks, h, hticks⟩, hremain⟩
    exact ⟨g, tries, ticks, h, hticks, (State.triesRemain_eq h).symm.trans hremain⟩

/-- The heads out of tries (R115). -/
def State.spent (s : State) : List SlotNum := s.expiredHeads (fun tries => decide (s.noticeTries ≤ tries))

theorem State.mem_spent {s : State} {sl : SlotNum} :
    sl ∈ s.spent ↔ s.intervalExpired sl = true ∧ s.triesRemain sl = false := by
  rw [State.spent, State.mem_expiredHeads, State.intervalExpired_iff]
  constructor
  · rintro ⟨g, tries, ticks, h, hticks, htries⟩
    refine ⟨⟨g, tries, ticks, h, hticks⟩, (State.triesRemain_eq h).trans ?_⟩
    rw [decide_eq_true_eq] at htries
    exact decide_eq_false (Nat.not_lt.2 htries)
  · rintro ⟨⟨g, tries, ticks, h, hticks⟩, hremain⟩
    rw [State.triesRemain_eq h, decide_eq_false_iff_not] at hremain
    exact ⟨g, tries, ticks, h, hticks, decide_eq_true (Nat.not_lt.1 hremain)⟩

/-! ### The offers of a slot (R111, R115) -/

/-- The frame of a head to be sent again is offered, and no other (R115). -/
theorem resendHead_eq (sl : SlotNum) (s : State) :
    resendHead sl s = if sl ∈ s.resends then s.withOffered [sl] else s := by
  unfold resendHead
  by_cases h : s.intervalExpired sl = true ∧ s.triesRemain sl = true
  · obtain ⟨g, tries, ticks, hcounted, -⟩ := State.intervalExpired_iff.1 h.1
    obtain ⟨f, hf⟩ := headFrame_of_headNotice (State.countedHead_iff.1 hcounted).2.1
    rw [if_pos h, if_pos (State.mem_resends.2 h), offerFrame_eq hf]
  · rw [if_neg h, if_neg (mt State.mem_resends.1 h)]

/-- A head to be sent again has no frame under way. -/
theorem frame_of_mem_resends {s : State} {sl : SlotNum} (h : sl ∈ s.resends) :
    s.link = .up ∧ (s.slot sl).frame = .none ∧ ∃ f, s.headFrame sl = some f := by
  obtain ⟨g, tries, ticks, hcounted, -⟩ := State.mem_expiredHeads.1 h
  obtain ⟨-, hnotice, hup, hframe⟩ := State.countedHead_iff.1 hcounted
  exact ⟨hup, hframe, headFrame_of_headNotice hnotice⟩

/-- The frames due in a slot: of a new head, or of a head to be sent again (R111, R115). -/
theorem offerDue_eq (sl : SlotNum) (s : State) :
    offerDue sl s = if sl ∈ s.newHeads ∨ sl ∈ s.resends then s.withOffered [sl] else s := by
  rw [offerDue, offerNewHead_eq]
  by_cases hnew : sl ∈ s.newHeads
  · obtain ⟨f, hf⟩ := headFrame_of_mem_newHeads hnew
    have hoffered : sl ∉ (s.withOffered [sl]).resends := fun h => by
      have hframe := (frame_of_mem_resends h).2.1
      rw [withOffered_slot, if_pos List.mem_cons_self, hf] at hframe
      cases hframe
    rw [if_pos hnew, if_pos (.inl hnew), resendHead_eq, if_neg hoffered]
  · rw [if_neg hnew, resendHead_eq]
    simp only [hnew, false_or]

end Sys2Proof.Machine
end


section
/-! PROOFS. Notices that end UNACKED (R115, R117), one head at a time and many in one event; the rows of the two
expiries. -/

namespace Sys2Proof.Machine

/-! ### Heads that end UNACKED -/

/-- `s` with the notices of the grants `gs` UNACKED and the heads of the slots `sls` out of their queues, before the
grants are tested for readiness. -/
def State.withTails (s : State) (gs : List GrantNum) (sls : List SlotNum) : State :=
  { s with
    grants := Vector.ofFn (fun g : GrantNum => if g ∈ gs then (s.grant g).withNotice .unacked else s.grant g)
    slots := Vector.ofFn (fun k : SlotNum =>
      if k ∈ sls then { s.slot k with queue := (s.slot k).queue.tail } else s.slot k) }

/-- The heads of the queues of slots. -/
def State.headsOf (s : State) (sls : List SlotNum) : List GrantNum := sls.filterMap (fun sl => (s.slot sl).queue.head?)

/-- Heads that end UNACKED, in the statements' words (R115, R117). -/
theorem withUnacked_eq (s : State) (sls : List SlotNum) :
    s.withUnacked sls =
      (s.withTails (s.headsOf sls) sls).withReady
        ((s.withTails (s.headsOf sls) sls).readyAmong (s.headsOf sls)) := rfl

section
variable (s : State) (gs : List GrantNum) (sls : List SlotNum)

@[simp] theorem withTails_grant (g : GrantNum) :
    (s.withTails gs sls).grant g = if g ∈ gs then (s.grant g).withNotice .unacked else s.grant g := by
  simp [State.withTails, State.grant]

@[simp] theorem withTails_slot (k : SlotNum) :
    (s.withTails gs sls).slot k =
      if k ∈ sls then { s.slot k with queue := (s.slot k).queue.tail } else s.slot k := by
  simp [State.withTails, State.slot]

theorem withTails_clockView : (s.withTails gs sls).clockView = s.clockView := by
  simp only [State.clockView, State.withTails]

end

/-- A head without a frame under way leaves its queue UNACKED (R117). -/
theorem leaveQueue_unacked {s : State} {sl : SlotNum} {g : GrantNum} {rest : List GrantNum}
    (hq : (s.slot sl).queue = g :: rest) (hf : (s.slot sl).frame = .none) :
    leaveQueue sl .unacked s = s.withTails [g] [sl] := by
  have hwithdraw : withdrawFrame sl (setNotice g .unacked s) = setNotice g .unacked s := by
    simp only [withdrawFrame, setNotice_slot, hf]
  have honly : ∃ grants slots, leaveQueue sl .unacked s = { s with grants := grants, slots := slots } := by
    simp only [leaveQueue, hq, hwithdraw]
    obtain ⟨_, h⟩ := setNotice_only g .unacked s
    rw [h]
    exact ⟨_, _, rfl⟩
  refine State.eq_of_grants_slots (fun k => ?_) (fun k => ?_) ?_
  · rw [leaveQueue_grant hq, withTails_grant]
    simp only [List.mem_singleton, eq_comm]
  · rw [leaveQueue_slot hq, withTails_slot]
    by_cases h : sl = k
    · subst h
      simp [hq, hf]
    · simp [h, Ne.symm h]
  · obtain ⟨_, _, h⟩ := honly
    rw [h]
    simp only [State.withTails]

/-- A spent head ends UNACKED and is tested for readiness; no other does (R115). -/
theorem endUnacked_spent {s : State} {sl : SlotNum} (h : sl ∈ s.spent) :
    ∃ g rest, (s.slot sl).queue = g :: rest ∧ (s.slot sl).frame = .none ∧
      endUnacked sl s = testReady g (s.withTails [g] [sl]) := by
  obtain ⟨g, tries, ticks, hcounted, -⟩ := State.mem_expiredHeads.1 h
  obtain ⟨⟨rest, hq⟩, -, -, hf⟩ := State.countedHead_iff.1 hcounted
  refine ⟨g, rest, hq, hf, ?_⟩
  rw [endUnacked, if_pos (State.mem_spent.1 h)]
  simp only [hq, leaveQueue_unacked hq hf]

theorem endUnacked_not_spent {s : State} {sl : SlotNum} (h : sl ∉ s.spent) : endUnacked sl s = s := by
  rw [endUnacked, if_neg (mt State.mem_spent.2 h)]

/-- One spent head's end, in the statements' words (R115, R117). -/
theorem endUnacked_eq {s : State} {sl : SlotNum} (h : sl ∈ s.spent) : endUnacked sl s = s.withUnacked [sl] := by
  obtain ⟨g, rest, hq, -, hend⟩ := endUnacked_spent h
  have hheads : s.headsOf [sl] = [g] := by simp [State.headsOf, hq]
  rw [hend, testReady_eq, withUnacked_eq, hheads]

theorem withUnacked_clockView (s : State) (sls : List SlotNum) : (s.withUnacked sls).clockView = s.clockView := by
  rw [withUnacked_eq, withReady_clockView, withTails_clockView]

/-! ### Offers of new heads and resends -/

/-- A due head stands on an UP link and has a frame (R111, R115). -/
theorem due_head {s : State} {sl : SlotNum} (h : sl ∈ s.newHeads ∨ sl ∈ s.resends) :
    s.link = .up ∧ ∃ f, s.headFrame sl = some f := by
  obtain hnew | hagain := h
  · exact ⟨(State.mem_newHeads.1 hnew).1, headFrame_of_mem_newHeads hnew⟩
  · obtain ⟨hup, -, hframe⟩ := frame_of_mem_resends hagain
    exact ⟨hup, hframe⟩

/-- The frames of a slot's due head are offered, and the transmitter chooses (R111, R115, R134). -/
theorem txTake_offerDue {s : State} (he : s.TransmitterEager) {sl : SlotNum} (h : sl ∈ s.newHeads ∨ sl ∈ s.resends) :
    txTake (offerDue sl s) = s.withOffers [sl] := by
  obtain ⟨hup, hframe⟩ := due_head h
  rw [offerDue_eq, if_pos h]
  exact txTake_withOffered he (fun _ => hup) fun k hk => List.mem_singleton.1 hk ▸ hframe

theorem withReady_grant_other {s : State} {gs : List GrantNum} {g : GrantNum} (h : g ∉ gs) :
    (s.withReady gs).grant g = s.grant g := by
  rw [State.withReady, withWaiting_grant, if_neg fun hm => h (List.mem_of_mem_drop hm), withRetired_grant,
    if_neg fun hm => h (List.mem_of_mem_take hm)]

/-- The record of a head that has a notice state. -/
theorem body_of_headNotice {s : State} {sl : SlotNum} {g : GrantNum} {rest : List GrantNum} {n : Notice}
    (hq : (s.slot sl).queue = g :: rest) (h : s.headNotice sl = some n) :
    ∃ t c, (s.grant g).body = .closing t c ∧ c.notice = n := by
  unfold State.headNotice at h
  rw [hq] at h
  simp only [] at h
  cases hb : (s.grant g).body with
  | free | live => rw [hb] at h; cases h
  | closing t c =>
    rw [hb] at h
    exact ⟨t, c, rfl, Option.some.inj h⟩

/-- Behind a spent head the next one is QUEUED: it is not sent again, but offered as new (R109, R115). -/
theorem not_mem_resends_withUnacked {s : State} {sl : SlotNum} (hs : s.NoticeQueuesSound) (h : sl ∈ s.spent) :
    sl ∉ (s.withUnacked [sl]).resends := fun hmem => by
  obtain ⟨g, rest, hq, -, -⟩ := endUnacked_spent h
  obtain ⟨hnodup, -, -, hqueued⟩ := hs sl
  have hheads : s.headsOf [sl] = [g] := by simp [State.headsOf, hq]
  obtain ⟨k, tries, ticks, hcounted, -⟩ := State.mem_expiredHeads.1 hmem
  obtain ⟨⟨rest', hq'⟩, hnotice, -, -⟩ := State.countedHead_iff.1 hcounted
  have hslot : ((s.withUnacked [sl]).slot sl).queue = rest := by
    rw [withUnacked_eq, State.withReady, withWaiting_slot, withRetired_slot, withTails_slot,
      if_pos List.mem_cons_self, hq]
    rfl
  have hk : k ∈ rest := by
    rw [← hslot, hq']
    exact List.mem_cons_self
  have hkg : k ≠ g := fun h => by
    rw [hq, List.nodup_cons] at hnodup
    exact hnodup.1 (h ▸ hk)
  have hgrant : (s.withUnacked [sl]).grant k = s.grant k := by
    have hready : k ∉ (s.withTails [g] [sl]).readyAmong [g] := fun h =>
      hkg (List.mem_singleton.1 (List.mem_filter.1 h).1)
    rw [withUnacked_eq, hheads, withReady_grant_other hready, withTails_grant,
      if_neg fun h => hkg (List.mem_singleton.1 h)]
  obtain ⟨t, c, hb, hc⟩ := body_of_headNotice hq' hnotice
  rw [hgrant] at hb
  have hnew := hqueued k (by rw [hq]; exact hk) t c hb
  rw [hc] at hnew
  cases hnew

/-- Settles O44: the two expiries that have rows of their own. -/
theorem expiryRowsAct : Obligations.ExpiryRowsAct := by
  intro s hreset he
  refine ⟨?_, fun sl => ⟨fun hnot => ?_, fun g tries ticks hphase hcounted =>
    ⟨fun hticks => ?_, fun hticks htries => ?_,
    fun hticks htries hqueues => ?_⟩⟩⟩
  · have hexpire : exec .grantExpiry s = .next (txTake (forSlots offerNewHead (expireAll s))) :=
      event_running (f := fun s => txTake (forSlots offerNewHead (expireAll s))) hreset
    rw [hexpire, expireAll_eq, forSlots_offerNewHead,
      txTake_withOffered_newHeads (eager_of_clockView (withExpired_clockView s _) he) fun _ h => h]
  all_goals
    have hexec : exec (.noticeIntervalExpiry sl) s =
        .next (if s.atTick && s.intervalExpired sl then txTake (offerDue sl (endUnacked sl s)) else s) :=
      event_running (f := fun s =>
        if s.atTick && s.intervalExpired sl then txTake (offerDue sl (endUnacked sl s)) else s) hreset
    rw [hexec]
    refine congrArg _ ?_
  · refine if_neg fun h => ?_
    obtain ⟨htick, hexpired⟩ := Bool.and_eq_true_iff.1 h
    obtain ⟨g, tries, ticks, hcounted, -⟩ := State.intervalExpired_iff.1 hexpired
    obtain hnone | hphase := hnot
    · rw [hnone] at hcounted
      cases hcounted
    · exact hphase (of_decide_eq_true htick)
  · refine if_neg fun h => ?_
    obtain ⟨g', tries', ticks', hcounted', hexpired⟩ := State.intervalExpired_iff.1 (Bool.and_eq_true_iff.1 h).2
    rw [hcounted] at hcounted'
    cases hcounted'
    omega
  · have htick : s.atTick = true := decide_eq_true hphase
    have hmem : sl ∈ s.resends := State.mem_expiredHeads.2 ⟨g, tries, ticks, hcounted, hticks, decide_eq_true htries⟩
    have hspent : sl ∉ s.spent := fun h => by
      have := (State.mem_spent.1 h).2
      rw [(State.mem_resends.1 hmem).2] at this
      cases this
    rw [if_pos (Bool.and_eq_true_iff.2 ⟨htick, (State.mem_resends.1 hmem).1⟩),
      endUnacked_not_spent hspent, txTake_offerDue he (.inr hmem)]
  · have htick : s.atTick = true := decide_eq_true hphase
    have hspent : sl ∈ s.spent := State.mem_expiredHeads.2 ⟨g, tries, ticks, hcounted, hticks, decide_eq_true htries⟩
    have hu : (s.withUnacked [sl]).TransmitterEager := eager_of_clockView (withUnacked_clockView s [sl]) he
    rw [if_pos (Bool.and_eq_true_iff.2 ⟨htick, (State.mem_spent.1 hspent).1⟩), endUnacked_eq hspent]
    simp only [newHeads_filter]
    by_cases hnew : sl ∈ (s.withUnacked [sl]).newHeads
    · rw [if_pos hnew, txTake_offerDue hu (.inl hnew)]
    · rw [if_neg hnew, offerDue_eq, if_neg, withOffers_nil, txTake_of_eager hu]
      exact fun h => h.elim hnew (not_mem_resends_withUnacked hqueues hspent)

end Sys2Proof.Machine
end


section
/-! PROOFS. TICK (R25 to R28, R114, R115): what is done slot by slot is done to all slots at once. -/

namespace Sys2Proof.Machine

/-! ### Queues with no grant in common -/

/-- No grant is in the queues of two slots. -/
def State.QueuesDisjoint (s : State) : Prop :=
  ∀ (g : GrantNum) (sl k : SlotNum), g ∈ (s.slot sl).queue → g ∈ (s.slot k).queue → sl = k

/-- Only CLOSING grants are in queues. -/
def State.QueuesClosing (s : State) : Prop :=
  ∀ (g : GrantNum) (sl : SlotNum), g ∈ (s.slot sl).queue → ∃ t c, (s.grant g).body = .closing t c

/-- Sound queues of distinct stations have no grant in common. -/
theorem queuesDisjoint_of_sound {s : State} (hs : s.NoticeQueuesSound) (hd : s.StationsDistinct) :
    s.QueuesDisjoint := fun g sl k hsl hk => by
  obtain ⟨x, t, c, hx, hb, hholder, -⟩ := ((hs sl).2.2.1 g).1 hsl
  obtain ⟨y, u, d, hy, hb', hholder', -⟩ := ((hs k).2.2.1 g).1 hk
  rw [hb] at hb'
  cases hb'
  rw [hholder] at hholder'
  exact hd sl k x y hx hy (Holder.station.inj hholder')

theorem queuesClosing_of_sound {s : State} (hs : s.NoticeQueuesSound) : s.QueuesClosing := fun g sl hg =>
  let ⟨_, t, c, _, hb, _, _⟩ := ((hs sl).2.2.1 g).1 hg
  ⟨t, c, hb⟩

theorem queuesDisjoint_of_queues {s t : State} (h : ∀ sl, (t.slot sl).queue = (s.slot sl).queue)
    (hs : s.QueuesDisjoint) : t.QueuesDisjoint := by
  simpa only [State.QueuesDisjoint, h] using hs

theorem withReady_queue (s : State) (gs : List GrantNum) (sl : SlotNum) :
    ((s.withReady gs).slot sl).queue = (s.slot sl).queue := by
  rw [State.withReady, withWaiting_slot, withRetired_slot]

/-- A notice that a closing act enters is of a LIVE grant, so in no queue before (R32, R110). -/
theorem withClosed_queuesDisjoint {s : State} (hs : s.QueuesDisjoint) (hc : s.QueuesClosing) (cause : Cause)
    (gs : List GrantNum) : (s.withClosed cause gs).QueuesDisjoint := by
  have hclash : ∀ {g sl}, g ∈ (s.slot sl).queue → (s.grant g).owes cause = false := fun {g sl} hg => by
    obtain ⟨t, c, hb⟩ := hc g sl hg
    rw [Grant.owes, hb]
  have hmem : ∀ {g sl}, g ∈ ((s.withClosed cause gs).slot sl).queue →
      g ∈ (s.slot sl).queue ∨ ((s.grant g).owes cause = true ∧ s.holderSlot g = some sl) := fun {g sl} hg => by
    rw [withClosed_slot, List.mem_append, List.mem_filter, Bool.and_eq_true, beq_iff_eq] at hg
    exact hg.imp id And.right
  intro g sl k hsl hk
  obtain hold | ⟨howes, hslot⟩ := hmem hsl
  · obtain hold' | ⟨howes', -⟩ := hmem hk
    · exact hs g sl k hold hold'
    · rw [hclash hold] at howes'
      cases howes'
  · obtain hold' | ⟨-, hslot'⟩ := hmem hk
    · rw [hclash hold'] at howes
      cases howes
    · rw [hslot] at hslot'
      exact Option.some.inj hslot'

/-! ### The intervals (R114) -/

/-- A slot's head is judged by its own record alone. -/
theorem headNotice_congr {s t : State} {sl : SlotNum} (hq : (t.slot sl).queue = (s.slot sl).queue)
    (hg : ∀ g ∈ (s.slot sl).queue, t.grant g = s.grant g) : t.headNotice sl = s.headNotice sl := by
  unfold State.headNotice
  rw [hq]
  cases h : (s.slot sl).queue with
  | nil => rfl
  | cons g rest =>
    have hgrant : t.grant g = s.grant g := hg g (by rw [h]; exact List.mem_cons_self)
    simp only [hgrant]

theorem countedHead_congr {s t : State} {sl : SlotNum} (hl : t.link = s.link)
    (hq : (t.slot sl).queue = (s.slot sl).queue) (hf : (t.slot sl).frame = (s.slot sl).frame)
    (hg : ∀ g ∈ (s.slot sl).queue, t.grant g = s.grant g) : t.countedHead sl = s.countedHead sl := by
  unfold State.countedHead
  rw [hq, headNotice_congr hq hg, hl, hf]

/-- A head with its interval counted (R114, log 10). -/
def Grant.counted (x : Grant) (interval : Nat) (head : Option (GrantNum × Nat × Nat)) : Grant :=
  match head with
  | some (_, tries, ticks) => if ticks < interval then x.withNotice (.awaitAck tries (ticks + 1)) else x
  | none => x

/-- The counted head that the grant `g` is in one of the slots `sls`. -/
def State.headAmong (s : State) (sls : List SlotNum) (g : GrantNum) : Option (GrantNum × Nat × Nat) :=
  sls.findSome? (fun sl => (s.countedHead sl).filter (fun h => h.1 == g))

/-- `s` with the intervals of the heads of the slots `sls` counted. -/
def State.withIntervalsOf (s : State) (sls : List SlotNum) : State :=
  { s with grants := Vector.ofFn (fun g : GrantNum => (s.grant g).counted s.noticeInterval (s.headAmong sls g)) }

section
variable (s : State) (sls : List SlotNum)

theorem withIntervalsOf_grant (g : GrantNum) :
    (s.withIntervalsOf sls).grant g = (s.grant g).counted s.noticeInterval (s.headAmong sls g) := by
  simp [State.withIntervalsOf, State.grant]

theorem withIntervalsOf_slot (k : SlotNum) : (s.withIntervalsOf sls).slot k = s.slot k := by
  simp only [State.withIntervalsOf, State.slot]

theorem withIntervalsOf_otherTables : s.OtherTables (s.withIntervalsOf sls) := ⟨_, s.slots, rfl⟩

theorem withIntervalsOf_clockView : (s.withIntervalsOf sls).clockView = s.clockView := by
  simp only [State.clockView, State.withIntervalsOf]

end

theorem withIntervals_eq (s : State) : s.withIntervals = s.withIntervalsOf (List.finRange 16) := by
  unfold State.withIntervals State.withIntervalsOf
  congr 1

theorem withIntervalsOf_nil (s : State) : s.withIntervalsOf [] = s := by
  refine State.eq_of_otherTables (withIntervalsOf_otherTables s []) (.refl s) (fun g => ?_) (withIntervalsOf_slot s [])
  rw [withIntervalsOf_grant]
  rfl

theorem countInterval_none {s : State} {sl : SlotNum} (h : s.countedHead sl = none) : countInterval sl s = s := by
  unfold countInterval
  split
  · next hcond =>
    split
    · next g rest tries ticks hq hn =>
      rw [State.countedHead_iff.2 ⟨⟨rest, hq⟩, hn, hcond⟩] at h
      cases h
    · rfl
  · rfl

theorem countInterval_some {s : State} {sl : SlotNum} {g : GrantNum} {tries ticks : Nat}
    (h : s.countedHead sl = some (g, tries, ticks)) :
    countInterval sl s = if ticks < s.noticeInterval then setNotice g (.awaitAck tries (ticks + 1)) s else s := by
  obtain ⟨⟨rest, hq⟩, hn, hup, hf⟩ := State.countedHead_iff.1 h
  rw [countInterval, if_pos ⟨hup, hf⟩]
  simp only [hq, hn]

/-- A grant of one slot's queue is no head of another's. -/
theorem headAmong_none {s : State} (hs : s.QueuesDisjoint) {g : GrantNum} {sl : SlotNum} {done : List SlotNum}
    (hg : g ∈ (s.slot sl).queue) (hsl : sl ∉ done) : s.headAmong done g = none := by
  refine List.findSome?_eq_none_iff.2 fun k hk => ?_
  cases hcounted : s.countedHead k with
  | none => rfl
  | some h =>
    obtain ⟨g', tries, ticks⟩ := h
    obtain ⟨⟨rest, hq⟩, -⟩ := State.countedHead_iff.1 hcounted
    refine Option.filter_eq_none_iff.2 fun a ha hag => ?_
    cases ha
    have hmem : g ∈ (s.slot k).queue := by
      rw [hq, ← beq_iff_eq.1 hag]
      exact List.mem_cons_self
    exact hsl (hs g sl k hg hmem ▸ hk)

/-- One more slot's interval counted. -/
theorem countInterval_withIntervalsOf {s : State} (hs : s.QueuesDisjoint) {done : List SlotNum} {sl : SlotNum}
    (hsl : sl ∉ done) : countInterval sl (s.withIntervalsOf done) = s.withIntervalsOf (done ++ [sl]) := by
  have hgrant : ∀ g ∈ (s.slot sl).queue, (s.withIntervalsOf done).grant g = s.grant g := fun g hg => by
    rw [withIntervalsOf_grant, headAmong_none hs hg hsl]
    rfl
  have hcounted : (s.withIntervalsOf done).countedHead sl = s.countedHead sl :=
    countedHead_congr (clockView_link (withIntervalsOf_clockView s done))
      (congrArg Slot.queue (withIntervalsOf_slot s done sl)) (congrArg Slot.frame (withIntervalsOf_slot s done sl))
        hgrant
  have hamong : ∀ g, s.headAmong (done ++ [sl]) g =
      (s.headAmong done g).or ((s.countedHead sl).filter (fun h => h.1 == g)) := fun g => by
    rw [State.headAmong, List.findSome?_append]
    simp [State.headAmong]
  have honly : (s.withIntervalsOf done).OtherTables (countInterval sl (s.withIntervalsOf done)) :=
    let ⟨grants, h⟩ := countInterval_only sl (s.withIntervalsOf done)
    ⟨grants, (s.withIntervalsOf done).slots, h⟩
  have hslot : ∀ k, (countInterval sl (s.withIntervalsOf done)).slot k = (s.withIntervalsOf done).slot k := fun k => by
    have hslots : (countInterval sl (s.withIntervalsOf done)).slots = (s.withIntervalsOf done).slots := by
      obtain ⟨_, h⟩ := countInterval_only sl (s.withIntervalsOf done)
      rw [h]
    simp only [State.slot, hslots]
  refine State.eq_of_otherTables ((withIntervalsOf_otherTables s done).trans honly)
    (withIntervalsOf_otherTables s (done ++ [sl])) (fun k => ?_) (fun k => ?_)
  · rw [withIntervalsOf_grant, hamong]
    cases hhead : s.countedHead sl with
    | none =>
      rw [countInterval_none (hcounted.trans hhead), withIntervalsOf_grant, Option.filter_none, Option.or_none]
    | some h =>
      obtain ⟨g, tries, ticks⟩ := h
      obtain ⟨⟨rest, hq⟩, -⟩ := State.countedHead_iff.1 hhead
      have hnone : s.headAmong done g = none := headAmong_none hs (by rw [hq]; exact List.mem_cons_self) hsl
      rw [countInterval_some (hcounted.trans hhead), clockView_interval (withIntervalsOf_clockView s done),
        apply_ite (fun u : State => u.grant k), setNotice_grant, withIntervalsOf_grant]
      by_cases hk : g = k
      · subst hk
        simp [hnone, Grant.counted, Option.filter]
      · simp [hk, Option.filter]
  · rw [hslot, withIntervalsOf_slot, withIntervalsOf_slot]

/-- All intervals counted slot by slot, as described (R114). -/
theorem forSlots_countInterval {s : State} (hs : s.QueuesDisjoint) : forSlots countInterval s = s.withIntervals := by
  have h := forSlots_collects (p := fun _ => true) (X := s.withIntervalsOf) fun done sl hsl =>
    (countInterval_withIntervalsOf hs hsl).trans (if_pos rfl).symm
  rw [withIntervalsOf_nil] at h
  rw [h, withIntervals_eq, List.filter_true]

theorem withIntervals_clockView (s : State) : s.withIntervals.clockView = s.clockView := by
  rw [withIntervals_eq, withIntervalsOf_clockView]

theorem withIntervals_slot (s : State) (k : SlotNum) : s.withIntervals.slot k = s.slot k := by
  rw [withIntervals_eq, withIntervalsOf_slot]

/-! ### The heads out of tries (R115, R117) -/

theorem withTails_unhanded (s : State) (gs : List GrantNum) (sls : List SlotNum) :
    (s.withTails gs sls).unhanded = s.unhanded := by
  simp only [State.unhanded, State.withTails]

theorem withTails_handLists (s : State) (gs : List GrantNum) (sls : List SlotNum) :
    (s.withTails gs sls).handLists = s.handLists := by
  simp only [State.handLists, State.withTails]

theorem withTails_holderSlot (s : State) (gs : List GrantNum) (sls : List SlotNum) (g : GrantNum) :
    (s.withTails gs sls).holderSlot g = s.holderSlot g := by
  have hfind : ∀ n, (s.withTails gs sls).findSlot n = s.findSlot n := findSlot_congr fun k => by
    rw [withTails_slot]
    split <;> rfl
  have hholder : ((s.withTails gs sls).grant g).body.holder? = (s.grant g).body.holder? := by
    rw [withTails_grant]
    split
    · exact Grant.withNotice_holder ..
    · rfl
  simp only [State.holderSlot, hholder, hfind]

section
variable {s : State} {gs R : List GrantNum} (sls : List SlotNum) (h : ∀ g ∈ R, g ∉ gs)
include h

theorem withRetired_withTails : (s.withTails gs sls).withRetired R = (s.withRetired R).withTails gs sls := by
  have hgrant : ∀ g ∈ R, (s.withTails gs sls).grant g = s.grant g := fun g hg => by rw
      [withTails_grant, if_neg (h g hg)]
  have hrecord : R.filterMap (s.withTails gs sls).retiredRecord = R.filterMap s.retiredRecord :=
    List.filterMap_congr fun g hg => by simp only [State.retiredRecord, hgrant g hg]
  have hlists := withTails_handLists s gs sls
  simp only [State.handLists, Prod.mk.injEq] at hlists
  obtain ⟨hfree, hindex, hcq, hbacklog, halerts⟩ := hlists
  refine State.eq_of_handed ?_ (fun g => ?_) (fun k => ?_) ?_
  · rw [withRetired_unhanded, withTails_unhanded, withTails_unhanded, withRetired_unhanded]
  · by_cases hg : g ∈ R
    · simp [hg, h g hg]
    · simp [hg]
  · rw [withRetired_slot, withTails_slot, withTails_slot, withRetired_slot]
    simp only [withTails_holderSlot]
    split <;> rfl
  · rw [withRetired_handLists, withTails_handLists, withRetired_handLists, hfree, hindex, hcq, hbacklog, halerts,
      hrecord]

theorem withWaiting_withTails : (s.withTails gs sls).withWaiting R = (s.withWaiting R).withTails gs sls := by
  have hlists := withTails_handLists s gs sls
  simp only [State.handLists, Prod.mk.injEq] at hlists
  obtain ⟨hfree, hindex, hcq, hbacklog, halerts⟩ := hlists
  refine State.eq_of_handed ?_ (fun g => ?_) (fun k => ?_) ?_
  · rw [withWaiting_unhanded, withTails_unhanded, withTails_unhanded, withWaiting_unhanded]
  · by_cases hg : g ∈ R
    · simp [hg, h g hg]
    · simp [hg]
  · rw [withWaiting_slot, withTails_slot, withTails_slot, withWaiting_slot]
  · rw [withWaiting_handLists, withTails_handLists, withWaiting_handLists, hfree, hindex, hcq, hbacklog, halerts]

/-- The hand-over of some grants and the endings of others' notices do not meddle. -/
theorem withReady_withTails : (s.withTails gs sls).withReady R = (s.withReady R).withTails gs sls := by
  have hlists := withTails_handLists s gs sls
  simp only [State.handLists, Prod.mk.injEq] at hlists
  obtain ⟨hfree, hindex, hcq, hbacklog, halerts⟩ := hlists
  have hroom : (s.withTails gs sls).room R.length = s.room R.length := by rw [State.room, State.room, hbacklog, hcq]
  have htake : ∀ g ∈ R.take (s.room R.length), g ∉ gs := fun g hg => h g (List.mem_of_mem_take hg)
  have hdrop : ∀ g ∈ R.drop (s.room R.length), g ∉ gs := fun g hg => h g (List.mem_of_mem_drop hg)
  rw [State.withReady, State.withReady, hroom, withRetired_withTails sls htake, withWaiting_withTails sls hdrop]

end

/-- The ending of notices of other grants than those tested for readiness. -/
theorem testReadyAll_withTails {s : State} {gs hs : List GrantNum} (sls : List SlotNum) (h : ∀ g ∈ hs, g ∉ gs) :
    testReadyAll hs (s.withTails gs sls) = (testReadyAll hs s).withTails gs sls := by
  induction hs generalizing s with
  | nil => rfl
  | cons g hs ih =>
    have hg : ∀ k ∈ [g], k ∉ gs := fun k hk => h k (by rw [List.mem_singleton.1 hk]; exact List.mem_cons_self)
    have hready : (s.withTails gs sls).readyAmong [g] = s.readyAmong [g] := by
      rw [State.readyAmong_eq, State.readyAmong_eq]
      exact List.filter_congr fun k hk => by rw [withTails_grant, if_neg (hg k hk)]
    have hstep : testReady g (s.withTails gs sls) = (testReady g s).withTails gs sls := by
      rw [testReady_eq, testReady_eq, hready]
      exact withReady_withTails sls fun k hk => hg k (List.mem_filter.1 hk).1
    rw [testReadyAll_cons, testReadyAll_cons, hstep, ih fun k hk => h k (List.mem_cons_of_mem g hk)]

/-- The tests for readiness leave other grants, the queues, the frames and the clock's view as they are. -/
theorem testReadyAll_keeps (hs : List GrantNum) (s : State) :
    (∀ g, g ∉ hs → (testReadyAll hs s).grant g = s.grant g) ∧
      (∀ k, ((testReadyAll hs s).slot k).queue = (s.slot k).queue) ∧
      (∀ k, ((testReadyAll hs s).slot k).frame = (s.slot k).frame) ∧ (testReadyAll hs s).clockView = s.clockView := by
  induction hs generalizing s with
  | nil => simp only [testReadyAll, List.foldl_nil, implies_true, and_self]
  | cons h hs ih =>
    obtain ⟨hgrant, hqueue, hframe, hview⟩ := ih (testReady h s)
    have hother : ∀ g, g ≠ h → (testReady h s).grant g = s.grant g := fun g hg => by
      rw [testReady_eq]
      exact withReady_grant_other fun hm => hg (List.mem_singleton.1 (List.mem_filter.1 hm).1)
    refine ⟨fun g hg => ?_, fun k => ?_, fun k => ?_, ?_⟩
    · obtain ⟨hne, hnot⟩ := List.ne_and_not_mem_of_not_mem_cons hg
      exact (hgrant g hnot).trans (hother g hne)
    · exact (hqueue k).trans (by rw [testReady_eq, withReady_queue])
    · exact (hframe k).trans (by rw [testReady_eq, withReady_frame])
    · exact hview.trans (by rw [testReady_eq, withReady_clockView])

theorem withTails_withTails {s : State} {gs hs : List GrantNum} {sls done : List SlotNum} (hg : ∀ g ∈ gs, g ∉ hs)
    (hk : ∀ k ∈ sls, k ∉ done) :
    (s.withTails hs done).withTails gs sls = s.withTails (hs ++ gs) (done ++ sls) := by
  refine State.eq_of_grants_slots (fun g => ?_) (fun k => ?_) (by simp only [State.withTails])
  · by_cases h : g ∈ gs
    · simp [h, hg g h]
    · simp [h]
  · by_cases h : k ∈ sls
    · simp [h, hk k h]
    · simp [h]

/-- `s` with the heads of the slots `sls` ended UNACKED one after another, each tested for readiness (R115, R117). -/
def State.unackedTo (s : State) (sls : List SlotNum) : State :=
  testReadyAll (s.headsOf sls) (s.withTails (s.headsOf sls) sls)

theorem mem_headsOf {s : State} {sls : List SlotNum} {g : GrantNum} :
    g ∈ s.headsOf sls ↔ ∃ sl ∈ sls, ∃ rest, (s.slot sl).queue = g :: rest := by
  simp only [State.headsOf, List.mem_filterMap, List.head?_eq_some_iff]

theorem headsOf_nodup {s : State} (hs : s.QueuesDisjoint) {sls : List SlotNum} (h : sls.Nodup) :
    (s.headsOf sls).Nodup := by
  refine List.Nodup.filterMap (fun sl k g hsl hk => ?_) h
  refine hs g sl k ?_ ?_
  · exact List.mem_of_mem_head? hsl
  · exact List.mem_of_mem_head? hk

theorem headsOf_append {s : State} {done : List SlotNum} {sl : SlotNum} {g : GrantNum} {rest : List GrantNum}
    (hq : (s.slot sl).queue = g :: rest) : s.headsOf (done ++ [sl]) = s.headsOf done ++ [g] := by
  simp [State.headsOf, List.filterMap_append, hq]

/-- One more spent head's end (R115, R117). -/
theorem endUnacked_unackedTo {s : State} (hs : s.QueuesDisjoint) {done : List SlotNum} {sl : SlotNum}
    (hsl : sl ∉ done) :
    endUnacked sl (s.unackedTo done) =
      if decide (sl ∈ s.spent) = true then s.unackedTo (done ++ [sl]) else s.unackedTo done := by
  obtain ⟨hgrant, hqueue, hframe, hview⟩ := testReadyAll_keeps (s.headsOf done) (s.withTails (s.headsOf done) done)
  have hslot : (s.withTails (s.headsOf done) done).slot sl = s.slot sl := by rw [withTails_slot, if_neg hsl]
  have hnotHead : ∀ g ∈ (s.slot sl).queue, g ∉ s.headsOf done := fun g hg hhead => by
    obtain ⟨k, hk, rest, hq⟩ := mem_headsOf.1 hhead
    exact hsl (hs g sl k hg (by rw [hq]; exact List.mem_cons_self) ▸ hk)
  have hkept : ∀ g ∈ (s.slot sl).queue, (s.unackedTo done).grant g = s.grant g := fun g hg => by
    rw [State.unackedTo, hgrant g (hnotHead g hg), withTails_grant, if_neg (hnotHead g hg)]
  have hview' : (s.unackedTo done).clockView = s.clockView := hview.trans (withTails_clockView ..)
  have hqueue' : ((s.unackedTo done).slot sl).queue = (s.slot sl).queue := by rw [State.unackedTo, hqueue, hslot]
  have hcounted : (s.unackedTo done).countedHead sl = s.countedHead sl :=
    countedHead_congr (clockView_link hview') hqueue' (by rw [State.unackedTo, hframe, hslot]) hkept
  have hspent : sl ∈ (s.unackedTo done).spent ↔ sl ∈ s.spent := by
    rw [State.spent, State.spent, State.mem_expiredHeads, State.mem_expiredHeads, hcounted,
      clockView_interval hview', clockView_tries hview']
  by_cases h : sl ∈ s.spent
  · obtain ⟨g, rest, hq, -, hend⟩ := endUnacked_spent (hspent.2 h)
    rw [hqueue'] at hq
    have hg : ∀ k ∈ [g], k ∉ s.headsOf done := fun k hk => by
      rw [List.mem_singleton.1 hk]
      exact hnotHead g (by rw [hq]; exact List.mem_cons_self)
    rw [if_pos (decide_eq_true h), hend, State.unackedTo, State.unackedTo, headsOf_append hq,
      ← testReadyAll_withTails [sl] fun k hk hkg => hg k hkg hk, withTails_withTails hg fun k hk => ?_]
    · simp only [testReadyAll, List.foldl_append, List.foldl_cons, List.foldl_nil]
    · rw [List.mem_singleton.1 hk]
      exact hsl
  · rw [if_neg fun hd => h (of_decide_eq_true hd), endUnacked_not_spent (mt hspent.1 h)]

/-- The spent heads' ends slot by slot, as described (R115, R117). -/
theorem forSlots_endUnacked {s : State} (hs : s.QueuesDisjoint) : forSlots endUnacked s = s.withUnacked s.spent := by
  have h := forSlots_collects (X := s.unackedTo) fun done sl hsl => endUnacked_unackedTo hs hsl
  have hnil : s.unackedTo [] = s := by
    refine State.eq_of_grants_slots (fun g => ?_) (fun k => ?_) ?_
    · exact (withTails_grant s [] [] g).trans (if_neg List.not_mem_nil)
    · exact (withTails_slot s [] [] k).trans (if_neg List.not_mem_nil)
    · simp only [State.unackedTo, State.headsOf, List.filterMap_nil, testReadyAll, List.foldl_nil, State.withTails]
  have hspent : (List.finRange 16).filter (fun sl => decide (sl ∈ s.spent)) = s.spent := by
    unfold State.spent State.expiredHeads
    exact List.filter_congr fun sl hsl => by simp
  have hnodup : s.spent.Nodup := by
    unfold State.spent State.expiredHeads
    exact (List.nodup_finRange 16).filter _
  rw [hnil] at h
  rw [h, hspent, State.unackedTo, testReadyAll_eq (headsOf_nodup hs hnodup), withUnacked_eq]

/-! ### The frames that a tick offers (R111, R115) -/

/-- Offers leave the heads of the other slots as they are. -/
theorem mem_resends_withOffered {s : State} {done : List SlotNum} {sl : SlotNum} (h : sl ∉ done) :
    sl ∈ (s.withOffered done).resends ↔ sl ∈ s.resends := by
  have hslot : (s.withOffered done).slot sl = s.slot sl := by rw [withOffered_slot, if_neg h]
  have hkept : (s.withOffered done).link = s.link ∧ (s.withOffered done).noticeInterval = s.noticeInterval ∧
      (s.withOffered done).noticeTries = s.noticeTries := by
    simp only [State.withOffered, and_self]
  obtain ⟨hlink, hinterval, htries⟩ := hkept
  have hcounted : (s.withOffered done).countedHead sl = s.countedHead sl :=
    countedHead_congr hlink (by rw [hslot]) (by rw [hslot]) fun g _ => withOffered_grant s done g
  rw [State.resends, State.resends, State.mem_expiredHeads, State.mem_expiredHeads, hcounted, hinterval, htries]

/-- All frames due offered slot by slot, as described (R111). -/
theorem forSlots_offerDue (s : State) :
    forSlots offerDue s =
      s.withOffered ((List.finRange 16).filter (fun sl => s.newHeads.contains sl || s.resends.contains sl)) := by
  refine forSlots_offers fun done sl hsl => ?_
  rw [offerDue_eq]
  refine if_congr ((or_congr (mem_newHeads_withOffered hsl) (mem_resends_withOffered hsl)).trans ?_) rfl rfl
  simp

/-- A countdown leaves CLOSING grants as they are (R28). -/
theorem withCountdown_grant {s : State} {g : GrantNum} {t : Terms} {c : Closing}
    (hb : (s.grant g).body = .closing t c) : s.withCountdown.grant g = s.grant g := by
  have h : s.withCountdown.grant g = (s.grant g).countDown := by
    rw [← countDownAll_eq]
    simp [countDownAll, State.grant]
  rw [h, Grant.countDown, hb]

/-- Behind the lifetimes' part of a tick the queues have no grant in common. -/
theorem withExpired_queuesDisjoint {s : State} (hs : s.QueuesDisjoint) (hc : s.QueuesClosing) :
    (s.withCountdown.withExpired s.withCountdown.expired).QueuesDisjoint := by
  have hslot : ∀ k, s.withCountdown.slot k = s.slot k := fun _ => by simp only [State.withCountdown, State.slot]
  have hgrant : ∀ {g t c}, (s.grant g).body = .closing t c → (s.withCountdown.grant g).body = .closing t c := by
    intro g t c hb
    rw [withCountdown_grant hb, hb]
  have hdisjoint : s.withCountdown.QueuesDisjoint := queuesDisjoint_of_queues (fun k => by rw [hslot]) hs
  have hclosing : s.withCountdown.QueuesClosing := fun g sl hg => by
    rw [hslot] at hg
    obtain ⟨t, c, hb⟩ := hc g sl hg
    exact ⟨t, c, hgrant hb⟩
  refine queuesDisjoint_of_queues (fun k => ?_)
    (withClosed_queuesDisjoint hdisjoint hclosing .expired s.withCountdown.expired)
  rw [State.withExpired, withReady_queue]

theorem withCountdown_clockView (s : State) : s.withCountdown.clockView = s.clockView := by
  simp only [State.clockView, State.withCountdown]

/-- The lifetimes' part of a tick (R26 to R29). -/
def State.afterLifetimes (s : State) : State :=
  if s.freeze then s else s.withCountdown.withExpired s.withCountdown.expired

theorem tickLifetimes_eq (s : State) : tickLifetimes s = s.afterLifetimes := by
  rw [tickLifetimes, State.afterLifetimes, countDownAll_eq, expireAll_eq]

theorem afterLifetimes_clockView (s : State) : s.afterLifetimes.clockView = s.clockView := by
  unfold State.afterLifetimes
  split
  · rfl
  · rw [withExpired_clockView, withCountdown_clockView]

theorem afterLifetimes_queuesDisjoint {s : State} (hs : s.QueuesDisjoint) (hc : s.QueuesClosing) :
    s.afterLifetimes.QueuesDisjoint := by
  unfold State.afterLifetimes
  split
  · exact hs
  · exact withExpired_queuesDisjoint hs hc

/-- Settles O43: lifetimes, intervals, endings and offers, each for all grants or slots at once. -/
theorem tickCounts : Obligations.TickCounts := by
  intro s hreset he hdistinct hqueues s1 s2 s3 s4 resends
  have hdisjoint : s2.QueuesDisjoint :=
    afterLifetimes_queuesDisjoint (s := s1) (queuesDisjoint_of_sound (s := s) hqueues hdistinct)
      (queuesClosing_of_sound (s := s) hqueues)
  have hview2 : s2.clockView = s.clockView := afterLifetimes_clockView s1
  have hview3 : s3.clockView = s.clockView := (withIntervals_clockView s2).trans hview2
  have hview4 : s4.clockView = s.clockView := (withUnacked_clockView s3 _).trans hview3
  have hdisjoint3 : s3.QueuesDisjoint :=
    queuesDisjoint_of_queues (fun k => congrArg Slot.queue (withIntervals_slot s2 k)) hdisjoint
  have hspent : s3.spent = s3.expiredHeads (fun tries => decide (s.noticeTries ≤ tries)) := by
    rw [State.spent, clockView_tries hview3]
  have hresends : s4.resends = resends := by
    rw [State.resends, clockView_tries hview4]
  have hnotices : tickNotices s2 = s4 := by
    rw [tickNotices, forSlots_countInterval hdisjoint, forSlots_endUnacked hdisjoint3, hspent]
  have hevent : tickEvent s = txTake (forSlots offerDue s4) := by
    rw [tickEvent, tickLifetimes_eq, ← hnotices]
    rfl
  refine (event_running (f := tickEvent) hreset).trans (congrArg _ ?_)
  have hdue : ∀ sl ∈ (List.finRange 16).filter (fun sl => s4.newHeads.contains sl || resends.contains sl),
      sl ∈ s4.newHeads ∨ sl ∈ s4.resends := fun sl hsl => by
    rw [hresends]
    simpa using (List.mem_filter.1 hsl).2
  rw [hevent, forSlots_offerDue, hresends]
  refine txTake_withOffered (eager_of_clockView hview4 he) (fun hne => ?_) fun sl hsl => (due_head (hdue sl hsl)).2
  obtain ⟨sl, hsl⟩ := List.exists_mem_of_ne_nil _ hne
  exact (due_head (hdue sl hsl)).1

end Sys2Proof.Machine
end
